-- ==== Sys2Proof/Word.lean ====
section
/-! DEFINITION. The value types of the block: bytes, words, bus addresses, channels, responses and directions
(spec/30_encoding.md R90, spec/20_memory.md R50). -/

namespace Sys2Proof

/-- One byte on the bus: a data byte, a command byte, a mask or a checksum (R90). -/
abbrev Byte := BitVec 8

/-- The 16-bit word `{MSB, LSB}`, status bits included (00_scope.md R18). -/
abbrev Word := BitVec 16

/-- A 7-bit I2C device address (20_memory.md R50). -/
abbrev Addr := BitVec 7

/-- A channel number 0..7 (10_state.md R37). -/
abbrev Channel := BitVec 3

/-- Response of a bus transaction or of one byte of it (20_memory.md R52). -/
inductive Resp where
  | ack
  | nack
  deriving DecidableEq, Repr, Inhabited

/-- Direction of a transaction: bit 0 of the address byte (20_memory.md R55). -/
inductive Dir where
  | write
  | read
  deriving DecidableEq, Repr

/-- Kind of the measurement in progress (10_state.md R23). -/
inductive Kind where
  | temperature
  | humidity
  deriving DecidableEq, Repr

end Sys2Proof
end

