-- ==== Sys2Proof/Config.lean ====
section
/-! DEFINITION. The configuration record of spec/00_scope.md R7, the environment's answers, and the free values
(each `opaque`, with no body: nothing in Lean can evaluate it). -/

namespace Sys2Proof

/-- The parameters of 00_scope.md R7, fixed when the block is built (10_state.md R33).
DESIGN CHOICE (log 1, safe): a machine carries its record, so a claim speaks of every configuration. -/
structure Config where
  muxAddr      : Addr
  sensorAddr   : Addr
  cmdTNoHold   : Byte
  cmdRhNoHold  : Byte
  cmdTHold     : Byte
  cmdRhHold    : Byte
  /-- `P_CHANNELS`; a natural above 7 can be written and is then refused by `Config.wf` (R8). -/
  channels     : List Nat
  pollMaxT     : Nat
  pollMaxRh    : Nat
  pollInterval : Nat
  settle       : Nat
  channelDelay : Nat
  deriving DecidableEq, Repr, Inhabited

/-- The four command bytes are pairwise distinct (R8). -/
def Config.commandsDistinct (c : Config) : Bool :=
  c.cmdTNoHold != c.cmdRhNoHold && c.cmdTNoHold != c.cmdTHold && c.cmdTNoHold != c.cmdRhHold &&
  c.cmdRhNoHold != c.cmdTHold && c.cmdRhNoHold != c.cmdRhHold && c.cmdTHold != c.cmdRhHold

/-- What R8 asks of the two addresses and the four commands. -/
def Config.devicesWf (c : Config) : Bool := c.muxAddr != c.sensorAddr && c.commandsDistinct

/-- All the environment chooses in one bus transaction (20_memory.md R52): whether the address byte is
acknowledged, whether the data byte of a write is acknowledged, the three bytes an acknowledged read returns
(R54), and what `MUXREG` holds if a multiplexer write is refused (40_mux_writer.md R103). -/
structure Answer where
  addrAck : Bool
  dataAck : Bool
  m       : Byte
  l       : Byte
  c       : Byte
  mux     : Byte
  deriving DecidableEq, Repr, Inhabited

/-- FREE VALUE (log 5): the n-th answer of the environment when no scripted answer stands (00_scope.md R14, U6). -/
opaque Config.freeAnswer : Nat → Answer

/-- FREE VALUE (log 4): `MUXREG` at power-up (93 U2, G6: a model may not assume 0x00). -/
opaque Config.powerUpMux : Byte

/-- FREE VALUE (log 12): `P_CHANNELS[idx]` for an index outside the list, which the spec does not give. -/
opaque Config.freeChannel : Nat → Channel

/-- FREE VALUE (log 8): whether the kind of measurement is Temperature in a state where R23 leaves it undefined. -/
opaque Config.freeKindIsT : BitVec 4 → Bool

/-- FREE VALUES (log 2): the OPEN parameters of the build the reset state carries (92 D7 to D10). A budget is at
least 1 (R7), so what is free of it is the number above 1. -/
opaque Config.openPollExtraT : Nat
opaque Config.openPollExtraRh : Nat
opaque Config.openPollInterval : Nat
opaque Config.openSettle : Nat
opaque Config.openChannelDelay : Nat

/-- FREE VALUE (log 2): a drawn record, of which only the addresses and commands are used. -/
opaque Config.drawnDevices : Config

/-- The addresses and commands of the build the reset state carries: free values that pass their part of the check of
R8 (log 2; R7: a model must not hard-code a default that is general knowledge). Any record that passes may have been
drawn; the other branch only makes the definition total, and nothing can show that it is taken. -/
def Config.devices : Config :=
  if Config.drawnDevices.devicesWf then Config.drawnDevices
  else
    { Config.drawnDevices with
      muxAddr := 0, sensorAddr := 1, cmdTNoHold := 0, cmdRhNoHold := 1, cmdTHold := 2, cmdRhHold := 3 }

/-- The build the reset state carries: the channel list is the source's default (R7 `src`), everything else is free. -/
def Config.build : Config where
  muxAddr := Config.devices.muxAddr
  sensorAddr := Config.devices.sensorAddr
  cmdTNoHold := Config.devices.cmdTNoHold
  cmdRhNoHold := Config.devices.cmdRhNoHold
  cmdTHold := Config.devices.cmdTHold
  cmdRhHold := Config.devices.cmdRhHold
  channels := [0, 1]
  pollMaxT := Config.openPollExtraT + 1
  pollMaxRh := Config.openPollExtraRh + 1
  pollInterval := Config.openPollInterval
  settle := Config.openSettle
  channelDelay := Config.openChannelDelay

/-- A configuration with the addresses and commands under which opcode_table.json writes its numbers: R7's defaults.
PRESUMED (log 2): general knowledge of the device class (93 G1 to G3). Only for reading and placing table numbers. -/
def Config.withTableDevices (c : Config) : Config :=
  { c with
    muxAddr := 0x70, sensorAddr := 0x40
    cmdTNoHold := 0xF3, cmdRhNoHold := 0xF5, cmdTHold := 0xE3, cmdRhHold := 0xE5 }

/-- The configuration under which a table number is read. -/
def Config.table : Config := Config.build.withTableDevices

end Sys2Proof
end

