-- ==== Sys2Proof/Syntax.lean ====
section
/-! DEFINITION. The operations of the block: one constructor per row of spec/opcode_table.json (28 rows). The spec
calls them operations, not instructions (spec/00_scope.md R3). -/

namespace Sys2Proof

/-- One constructor per row of the opcode table. A bus operation carries no operand: its channel or its command is
part of the row (30_encoding.md R83, R89), and the three bytes of a `POLL` are the sensor's, not an operand (R125). -/
inductive Instr where
  /-- `MUXW 0` .. `MUXW 7`: select a channel (40_mux_writer.md R100). -/
  | muxw0
  | muxw1
  | muxw2
  | muxw3
  | muxw4
  | muxw5
  | muxw6
  | muxw7
  /-- `MUXOFF`: write 0x00 to the multiplexer (R106). -/
  | muxoff
  /-- `TRIG_T` (41_sensor_protocol.md R120). -/
  | trigT
  /-- `TRIG_RH` (R121). -/
  | trigRh
  /-- `TRIG_T_HOLD` (R122). -/
  | trigTHold
  /-- `TRIG_RH_HOLD` (R122). -/
  | trigRhHold
  /-- `POLL` (R125). -/
  | poll
  /-- `CRC_CHECK` over its three operand bytes (42_crc8.md R163). -/
  | crcCheck (msb lsb chk : Byte)
  /-- `TICK`, selected in state `st` while `wait > 0` (44_acquisition.md R191, 30_encoding.md R84). -/
  | tick (st : BitVec 4)
  | sIdle
  | sChSelected
  | sTTriggered
  | sTPolling
  | sTRead
  | sRhTriggered
  | sRhPolling
  | sRhRead
  | sDone
  | sFailed
  /-- `FAULT_ILLEGAL_STATE`, select codes 101xx: `st` 10 or 11 (10_state.md R21); `x` is the row's two free bits. -/
  | faultIllegalState101 (x : BitVec 2)
  /-- `FAULT_ILLEGAL_STATE`, select codes 11xxx: `st` 12 to 15 (R21); `x` is the row's three free bits. -/
  | faultIllegalState11 (x : BitVec 3)
  deriving DecidableEq, Repr

/-- The `MUXW` row of a channel (30_encoding.md R83). -/
def Instr.muxw (ch : Channel) : Instr :=
  match ch.toNat with
  | 0 => .muxw0
  | 1 => .muxw1
  | 2 => .muxw2
  | 3 => .muxw3
  | 4 => .muxw4
  | 5 => .muxw5
  | 6 => .muxw6
  | _ => .muxw7

end Sys2Proof
end

