-- ==== Sys2Proof/WellFormed.lean ====
section
/-! DEFINITION. Well-formed configurations (spec/00_scope.md R8) and well-formed operations. -/

namespace Sys2Proof

/-- At least 1, for a poll budget (R8). -/
def positive : Nat → Bool
  | 0 => false
  | _ + 1 => true

/-- Every element of `P_CHANNELS` is in 0..7 (R8). -/
def Config.channelsInRange (c : Config) : Bool := c.channels.all (· < 8)

/-- The check of 00_scope.md R8. A model refuses a configuration that fails it (U10). -/
def Config.wf (c : Config) : Bool :=
  c.muxAddr != c.sensorAddr && c.channelsInRange && !c.channels.isEmpty &&
  positive c.pollMaxT && positive c.pollMaxRh && c.commandsDistinct

/-- The one operation with a field that is bounded: `TICK` is selected for `st` in 0..9 only (30_encoding.md R84);
every other field may hold any value its width allows. -/
def Instr.wf : Instr → Bool
  | .tick st => st.toNat ≤ 9
  | .muxw0 | .muxw1 | .muxw2 | .muxw3 | .muxw4 | .muxw5 | .muxw6 | .muxw7 => true
  | .muxoff | .trigT | .trigRh | .trigTHold | .trigRhHold | .poll => true
  | .crcCheck _ _ _ => true
  | .sIdle | .sChSelected | .sTTriggered | .sTPolling | .sTRead => true
  | .sRhTriggered | .sRhPolling | .sRhRead | .sDone | .sFailed => true
  | .faultIllegalState101 _ | .faultIllegalState11 _ => true

end Sys2Proof
end

