-- ==== Sys2Proof/Decode.lean ====
section
/-! DEFINITION. The decoder, total on any bytes, rejecting by name, and the encoder after it (spec/30_encoding.md
sections 1, 2 and 5). Three code spaces, told apart by their length (DESIGN CHOICE, log 17, safe): a step-select code
is one byte, a write frame two, the validator's operands three, a read frame four. -/

namespace Sys2Proof

/-- Direction bit: 0 write, 1 read (R70). PRESUMED by the spec itself (93 G4; log 19). -/
def Dir.bit : Dir → BitVec 1
  | .write => 0
  | .read => 1

/-- Address byte `(A << 1) | D` (R70). -/
def addrByte (a : Addr) (d : Dir) : Byte := a ++ d.bit

/-- Multiplexer control byte of a channel: `1 << ch` (R73). -/
def muxMask (ch : Channel) : Byte := 1#8 <<< ch.toNat

/-- Why bytes are no operation. -/
inductive DecodeError where
  /-- A frame no row of 30_encoding.md R83 names (R85, R91): the spec's `NotABlockOperation`. -/
  | notABlockOperation
  /-- One byte whose bits 7:5 are not zero: a step-select code has five bits (R84). -/
  | notASelectCode
  /-- No bytes, or more than four: no operation has that length (R85). -/
  | noSuchLength
  deriving DecidableEq, Repr

/-- Write frame to the multiplexer, by its data byte (R85): one-hot is `MUXW`, 0x00 is `MUXOFF`. -/
def decodeMux (b : Byte) : Except DecodeError Instr :=
  match b.toNat with
  | 0x01 => .ok .muxw0
  | 0x02 => .ok .muxw1
  | 0x04 => .ok .muxw2
  | 0x08 => .ok .muxw3
  | 0x10 => .ok .muxw4
  | 0x20 => .ok .muxw5
  | 0x40 => .ok .muxw6
  | 0x80 => .ok .muxw7
  | 0x00 => .ok .muxoff
  | _ => .error .notABlockOperation

/-- Write frame to the sensor, by its command byte (R83, R85). -/
def decodeSensor (c : Config) (b : Byte) : Except DecodeError Instr :=
  if b = c.cmdTNoHold then .ok .trigT
  else if b = c.cmdRhNoHold then .ok .trigRh
  else if b = c.cmdTHold then .ok .trigTHold
  else if b = c.cmdRhHold then .ok .trigRhHold
  else .error .notABlockOperation

/-- Format W16 (R71). -/
def decodeWrite (c : Config) (a b : Byte) : Except DecodeError Instr :=
  if a = addrByte c.muxAddr .write then decodeMux b
  else if a = addrByte c.sensorAddr .write then decodeSensor c b
  else .error .notABlockOperation

/-- Format R32 (R72): the address byte alone decides; the three other bytes are the sensor's. -/
def decodeRead (c : Config) (a : Byte) : Except DecodeError Instr :=
  if a = addrByte c.sensorAddr .read then .ok .poll else .error .notABlockOperation

/-- The step the code `{st, wait = 0}` selects (R84, 44_acquisition.md R190): illegal states first, then `TICK` while
`wait > 0` (bit 0 clear), then the step of `st`. Total on the five bits. -/
def decodeSelect (w : BitVec 5) : Instr :=
  if w.extractLsb' 3 2 = 3#2 then .faultIllegalState11 (w.extractLsb' 0 3)
  else if w.extractLsb' 2 3 = 5#3 then .faultIllegalState101 (w.extractLsb' 0 2)
  else if w.getLsbD 0 then
    match (w.extractLsb' 1 4).toNat with
    | 0 => .sIdle
    | 1 => .sChSelected
    | 2 => .sTTriggered
    | 3 => .sTPolling
    | 4 => .sTRead
    | 5 => .sRhTriggered
    | 6 => .sRhPolling
    | 7 => .sRhRead
    | 8 => .sDone
    | _ => .sFailed
  else .tick (w.extractLsb' 1 4)

/-- The decoder, total on any list of bytes in bus order. -/
def decode (c : Config) : List Byte → Except DecodeError Instr
  | [b] => if b.extractLsb' 5 3 = 0#3 then .ok (decodeSelect (b.extractLsb' 0 5)) else .error .notASelectCode
  | [a, b] => decodeWrite c a b
  | [m, l, k] => .ok (.crcCheck m l k)
  | [a, _, _, _] => decodeRead c a
  | _ => .error .noSuchLength

/-- Write frame with data byte `b` (R71). -/
def writeBytes (a : Addr) (b : Byte) : List Byte := [addrByte a .write, b]

/-- The one byte of the step-select code `w` (R84). -/
def selectByte (w : BitVec 5) : List Byte := [w.setWidth 8]

/-- The bytes of an operation in bus order. The three bytes a `POLL` receives are not the block's to send: zeros
stand in their places. -/
def encode (c : Config) : Instr → List Byte
  | .muxw0 => writeBytes c.muxAddr 0x01
  | .muxw1 => writeBytes c.muxAddr 0x02
  | .muxw2 => writeBytes c.muxAddr 0x04
  | .muxw3 => writeBytes c.muxAddr 0x08
  | .muxw4 => writeBytes c.muxAddr 0x10
  | .muxw5 => writeBytes c.muxAddr 0x20
  | .muxw6 => writeBytes c.muxAddr 0x40
  | .muxw7 => writeBytes c.muxAddr 0x80
  | .muxoff => writeBytes c.muxAddr 0x00
  | .trigT => writeBytes c.sensorAddr c.cmdTNoHold
  | .trigRh => writeBytes c.sensorAddr c.cmdRhNoHold
  | .trigTHold => writeBytes c.sensorAddr c.cmdTHold
  | .trigRhHold => writeBytes c.sensorAddr c.cmdRhHold
  | .poll => [addrByte c.sensorAddr .read, 0, 0, 0]
  | .crcCheck m l k => [m, l, k]
  | .tick st => selectByte (st ++ 0#1)
  | .sIdle => selectByte 0b00001
  | .sChSelected => selectByte 0b00011
  | .sTTriggered => selectByte 0b00101
  | .sTPolling => selectByte 0b00111
  | .sTRead => selectByte 0b01001
  | .sRhTriggered => selectByte 0b01011
  | .sRhPolling => selectByte 0b01101
  | .sRhRead => selectByte 0b01111
  | .sDone => selectByte 0b10001
  | .sFailed => selectByte 0b10011
  | .faultIllegalState101 x => selectByte (0b101#3 ++ x)
  | .faultIllegalState11 x => selectByte (0b11#2 ++ x)

/-- The `n` bytes of a table number, most significant first: the table counts bit 0 from the last byte on the bus
(R71 and R72 number the bits in bus order, the first sent highest). -/
def bytesOfNumber : Nat → Nat → List Byte
  | 0, _ => []
  | n + 1, w => BitVec.ofNat 8 (w / 256 ^ n) :: bytesOfNumber n w

/-- The bytes of an opcode-table number of `nbits` bits, in whole bytes. -/
def tableBytes (nbits w : Nat) : List Byte := bytesOfNumber ((nbits + 7) / 8) w

/-- What the decoder reads from an opcode-table number, under the defaults the table is written for (R83). -/
def decodeTableWord (nbits w : Nat) : Option Instr :=
  match decode Config.table (tableBytes nbits w) with
  | .ok i => some i
  | .error _ => none

end Sys2Proof
end

