-- ==== Sys2Proof/Machine/State.lean ====
section
/-! DEFINITION. The machine's state as plain data: every register of spec/10_state.md R20, `MUXREG` (R28), the two
histories (R32), the configuration, and the environment's inputs; the reasons a step can stop; the state after reset. -/

namespace Sys2Proof.Machine

/-- One record of the bus history (10_state.md R32). `muxAtIssue` is `MUXREG` when the transaction is issued, before
its device effect (log 14). -/
structure BusRecord where
  dir        : Dir
  addr       : Addr
  sent       : List Byte
  resp       : Resp
  recv       : List Byte
  muxAtIssue : Byte
  deriving DecidableEq, Repr

/-- One record of the sink history (30_encoding.md R86). -/
inductive Event where
  | cycleStart (ch : Channel)
  | reading (ch : Channel) (tWord rhWord : Word)
  | fail (ch : Channel) (errCode : BitVec 2) (errPhase : BitVec 3)
  deriving DecidableEq, Repr

/-- The three errors (60_exceptions.md R230). -/
inductive ErrCode where
  | noAck
  | timeout
  | checksumMismatch
  deriving DecidableEq, Repr

/-- The sub-operation in which a failure occurred (30_encoding.md R87). -/
inductive Phase where
  | select
  | trigT
  | pollT
  | readT
  | trigRh
  | pollRh
  | readRh
  deriving DecidableEq, Repr

/-- Why the machine stops with a fault. -/
inductive Fault where
  /-- `st` in 10..15 (10_state.md R21, 93 U1). Raised by the two `FAULT_ILLEGAL_STATE` rows. Safe: the spec's own
  fault, which no run from reset reaches. -/
  | illegalState
  deriving DecidableEq, Repr

/-- Why the machine gives an input no meaning. -/
inductive Refusal where
  /-- An operation without a meaning yet; raised by an arm of exec. Safe. -/
  | notModelled (mnemonic : String)
  /-- `TRIG_T_HOLD` or `TRIG_RH_HOLD` presented to the step function: 41_sensor_protocol.md R122 gives them no
  semantics and 93 U8 refuses them. Raised by `execTrigTHold`, `execTrigRhHold`. Safe. -/
  | holdMasterTrigger
  /-- `MUXOFF` given to the step function as an input: 93 U8 says to refuse it. Its device effect (40_mux_writer.md
  R106) is the meaning `execMuxoff`. Raised by `fetch` (log 9). Safe. -/
  | muxoffGiven
  /-- The configuration fails the check of 00_scope.md R8 (93 U10). Raised by `step`. Safe. -/
  | illFormedConfiguration
  /-- Presented bytes are no operation (30_encoding.md R91). Raised by `fetch`. Safe. -/
  | undecodable (reason : DecodeError)
  deriving DecidableEq, Repr

end Sys2Proof.Machine

namespace Sys2Proof.Machine

/-- Everything the machine holds. Fields up to `muxreg` are registers; `answers`, `nAnswers` and `presented` are the
model's own inputs (log 5, log 6). -/
structure State where
  /-- Parameters; no step changes them (R33; log 1). -/
  cfg       : Config
  /-- FSM state, the machine's program counter (R20, R21, R22). -/
  st        : BitVec 4
  /-- Index into `P_CHANNELS` (R20; a natural, log 12). -/
  idx       : Nat
  /-- Channel of the current iteration (R20). -/
  ch        : Channel
  /-- Remaining delay ticks (R20, R9). -/
  wait      : Nat
  /-- Poll attempts made in the current measurement (R20, R9). -/
  attempts  : Nat
  /-- First, second and third byte of the last accepted poll response (R20, R76). -/
  msb       : Byte
  lsb       : Byte
  chk       : Byte
  /-- Verified temperature and humidity words (R20, R24). -/
  tWord     : Word
  rhWord    : Word
  /-- Code and phase of the current failure (R20, R87, R88). -/
  errCode   : BitVec 2
  errPhase  : BitVec 3
  /-- The multiplexer's control register, outside the block (R28). -/
  muxreg    : Byte
  /-- Bus history and sink history, in issue order (R32). -/
  busHist   : List BusRecord
  sinkHist  : List Event
  /-- Environment answers still to come, the next first (R14, R52; log 5). -/
  answers   : List Answer
  /-- Answers used so far: the argument of the free value once `answers` is empty (log 5). -/
  nAnswers  : Nat
  /-- An operation given to the step function from outside, as bytes; empty when there is none (U8; log 6). -/
  presented : List Byte
  deriving DecidableEq, Repr

/-- The block built with configuration `c` and a multiplexer holding `mux`, right after reset (10_state.md R38,
70_reset_and_hazards.md R260). `st`, `idx`, `wait` and the histories are the spec's; every register the spec leaves
unspecified holds zero: DESIGN CHOICE (log 3, unsafe). `answers`, `nAnswers`, `presented`: DESIGN CHOICE (log 5, 6). -/
def State.resetWith (c : Config) (mux : Byte) : State where
  cfg := c
  st := 0
  idx := 0
  ch := 0
  wait := 0
  attempts := 0
  msb := 0
  lsb := 0
  chk := 0
  tWord := 0
  rhWord := 0
  errCode := 0
  errPhase := 0
  muxreg := mux
  busHist := []
  sinkHist := []
  answers := []
  nAnswers := 0
  presented := []

/-- The machine right after power-up reset: a build whose parameters are free but for the source's own channel list
(00_scope.md R7; log 2), and a free `MUXREG` (93 U2; log 4). `State.resetWith` takes both as arguments. -/
def State.reset : State := State.resetWith Config.build Config.powerUpMux

end Sys2Proof.Machine
end

