-- ==== Sys2Proof/Machine/Operands.lean ====
section
/-! DEFINITION. Names of the state register's values (spec/10_state.md R21), the channel operand (spec/30_encoding.md
R73, R89), the kind of the measurement in progress (R23), and the fields of a received word (R76 to R78). -/

namespace Sys2Proof.Machine

/-! ### Values of `st` (10_state.md R21) -/

abbrev St.idle : BitVec 4 := 0
abbrev St.chSelected : BitVec 4 := 1
abbrev St.tTriggered : BitVec 4 := 2
abbrev St.tPolling : BitVec 4 := 3
abbrev St.tRead : BitVec 4 := 4
abbrev St.rhTriggered : BitVec 4 := 5
abbrev St.rhPolling : BitVec 4 := 6
abbrev St.rhRead : BitVec 4 := 7
abbrev St.done : BitVec 4 := 8
abbrev St.failed : BitVec 4 := 9

/-! ### The channel operand -/

/-- `P_CHANNELS[idx]`, 3 bits (44_acquisition.md R192, R89). Outside the list, which the spec does not describe and
no run reaches, a free value (log 12). -/
def channelAt (c : Config) (idx : Nat) : Channel :=
  match c.channels[idx]? with
  | some n => BitVec.ofNat 3 n
  | none => Config.freeChannel idx

/-- `(idx + 1) mod len(P_CHANNELS)` (R200, R201). -/
def nextIdx (c : Config) (idx : Nat) : Nat := (idx + 1) % c.channels.length

/-- Largest value `wait` must hold (00_scope.md R9). -/
def maxWait (c : Config) : Nat := max c.pollInterval (max c.settle c.channelDelay)

/-- Largest value `attempts` must hold (R9). -/
def maxAttempts (c : Config) : Nat := max c.pollMaxT c.pollMaxRh

/-! ### The kind of the measurement -/

/-- Kind of the measurement in progress, a function of `st`; none where R23 leaves it undefined. -/
def kindOf (st : BitVec 4) : Option Kind :=
  match st.toNat with
  | 2 | 3 | 4 => some .temperature
  | 5 | 6 | 7 => some .humidity
  | _ => none

/-- The kind, with a free value where it is undefined (log 8). -/
def kindOrFree (st : BitVec 4) : Kind :=
  match kindOf st with
  | some k => k
  | none => if Config.freeKindIsT st then .temperature else .humidity

/-- Poll budget of a kind (41_sensor_protocol.md R128). -/
def pollMax (c : Config) : Kind → Nat
  | .temperature => c.pollMaxT
  | .humidity => c.pollMaxRh

/-- No-hold trigger command of a kind (R120, R121). -/
def triggerCmd (c : Config) : Kind → Byte
  | .temperature => c.cmdTNoHold
  | .humidity => c.cmdRhNoHold

/-- Phases of a kind's trigger, polling and read (30_encoding.md R87). -/
def trigPhase : Kind → Phase
  | .temperature => .trigT
  | .humidity => .trigRh

def pollPhase : Kind → Phase
  | .temperature => .pollT
  | .humidity => .pollRh

def readPhase : Kind → Phase
  | .temperature => .readT
  | .humidity => .readRh

/-! ### The received word -/

/-- `{MSB, LSB}`: the first byte on the bus is the most significant (20_memory.md R56, 30_encoding.md R77). -/
def wordOf (m l : Byte) : Word := m ++ l

/-- `word & 0xFFFC`, the input of unit conversion (R78). -/
def codeOf (w : Word) : Word := w &&& 0xFFFC

/-- `word & 0x0003`; the block does not interpret it (R78, R79). -/
def statusOf (w : Word) : BitVec 2 := w.extractLsb' 0 2

/-- The source's `Measurement` record (10_state.md R24): the kind, the word with its low two bits stripped, and
those two bits. -/
structure Measurement where
  kind   : Kind
  raw    : Word
  status : BitVec 2
  deriving DecidableEq, Repr

/-- The record a verified word stands for (R24). -/
def measurementOf (k : Kind) (w : Word) : Measurement := ⟨k, codeOf w, statusOf w⟩

end Sys2Proof.Machine
end

