-- ==== Sys2Proof/Machine/Flags.lean ====
section
/-! DEFINITION. The block has no flags (spec/10_state.md R26). What plays their role: the comparison of the CRC-8
validator (spec/42_crc8.md) and the error and phase codes (spec/30_encoding.md R87, R88). -/

namespace Sys2Proof.Machine

/-! ### CRC-8 (42_crc8.md R160, R161) -/

/-- One of the eight shifts of R161: polynomial 0x31, most significant bit first. -/
def crcShift (c : Byte) : Byte := if c.msb then (c <<< 1) ^^^ 0x31 else c <<< 1

/-- One byte of the loop of R161. -/
def crcByte (c b : Byte) : Byte :=
  crcShift (crcShift (crcShift (crcShift (crcShift (crcShift (crcShift (crcShift (c ^^^ b))))))))

/-- `crc8(bytes)`: initial value 0x00, bytes in list order, no reflection, no final exclusive-or (R161; the final
value is the spec's own decision D20, log 20). -/
def crc8 (bs : List Byte) : Byte := bs.foldl crcByte 0x00

/-- `CRC_CHECK`'s one-bit result (R163), over exactly the two data bytes, status bits included (R162). -/
def crcValid (msb lsb chk : Byte) : Bool := crc8 [msb, lsb] == chk

/-! ### Error and phase codes -/

/-- `err_code`: 1, 2, 3; 0 is unused (30_encoding.md R88). -/
def ErrCode.bits : ErrCode → BitVec 2
  | .noAck => 1
  | .timeout => 2
  | .checksumMismatch => 3

/-- `err_phase`: 0 to 6; 7 is unused (R87). -/
def Phase.bits : Phase → BitVec 3
  | .select => 0
  | .trigT => 1
  | .pollT => 2
  | .readT => 3
  | .trigRh => 4
  | .pollRh => 5
  | .readRh => 6

/-- The legal (code, phase) pairs (R88). -/
def legalPair : ErrCode → Phase → Bool
  | .noAck, .select | .noAck, .trigT | .noAck, .trigRh => true
  | .timeout, .pollT | .timeout, .pollRh => true
  | .checksumMismatch, .readT | .checksumMismatch, .readRh => true
  | _, _ => false

end Sys2Proof.Machine
end

