-- ==== Sys2Proof/Machine/Wire.lean ====
section
/-! DEFINITION. The expansion of a transaction into the transport's primitives (spec/20_memory.md R53, R54) and the
bits of a byte on the wire (R57). The framing is the spec's, from general knowledge (93 G4; log 19). -/

namespace Sys2Proof.Machine

/-- A primitive of the Bus Transport. `writeByte` carries the device's response, `readByte` the master's. -/
inductive Prim where
  | start
  | writeByte (b : Byte) (r : Resp)
  | readByte (b : Byte) (r : Resp)
  | stop
  deriving DecidableEq, Repr

/-- A transaction's primitives and its response. -/
structure Framed where
  prims : List Prim
  resp  : Resp
  deriving DecidableEq, Repr

/-- ACK from a device's acknowledgement. -/
def respOf (ok : Bool) : Resp := if ok then .ack else .nack

/-- The bytes of a write, stopping at the first refused one (R53). `acks` says which byte the device acknowledges;
a byte for which it says nothing met a transport failure, which is a NACK (R53, 92 D15). -/
def sendBytes : List Byte → List Bool → Framed
  | [], _ => ⟨[], .ack⟩
  | b :: bs, true :: acks => ⟨.writeByte b .ack :: (sendBytes bs acks).prims, (sendBytes bs acks).resp⟩
  | b :: _, false :: _ => ⟨[.writeByte b .nack], .nack⟩
  | b :: _, [] => ⟨[.writeByte b .nack], .nack⟩

/-- `BusWrite(a, bs)` (R53). -/
def writeFrame (a : Addr) (bs : List Byte) (acks : List Bool) : Framed :=
  ⟨.start :: (sendBytes (addrByte a .write :: bs) acks).prims ++ [.stop],
   (sendBytes (addrByte a .write :: bs) acks).resp⟩

/-- The data bytes of a read: the master acknowledges every byte but the last (R54). -/
def receiveBytes : List Byte → List Prim
  | [] => []
  | [b] => [.readByte b .nack]
  | b :: bs => .readByte b .ack :: receiveBytes bs

/-- `BusRead(a, n)` where the device would return `data`, n bytes (R54): only the address byte can be refused. -/
def readFrame (a : Addr) (data : List Byte) (addrAck : Bool) : Framed :=
  if addrAck then
    ⟨.start :: .writeByte (addrByte a .read) .ack :: receiveBytes data ++ [.stop], .ack⟩
  else
    ⟨[.start, .writeByte (addrByte a .read) .nack, .stop], .nack⟩

/-- The eight bits of a byte in the order they cross the wire, most significant first (R57). -/
def wireBits (b : Byte) : List Bool := (List.range 8).map b.getMsbD

end Sys2Proof.Machine
end

