-- ==== Sys2Proof/Machine/Ops.lean ====
section
/-! DEFINITION. The shared operations: bus transactions (spec/20_memory.md), the multiplexer's device effect
(spec/40_mux_writer.md R102, R103), `emit` (spec/44_acquisition.md R214), taking a failure and leaving it
(spec/60_exceptions.md R236, R239), and reset (spec/70_reset_and_hazards.md). -/

namespace Sys2Proof.Machine

abbrev Result := Host.Outcome State Fault Refusal

/-! ### The environment's answer -/

/-- The environment's answer to the next transaction: the next scripted one, else a free value (R14, R52; log 5). -/
def State.answer (s : State) : Answer :=
  match s.answers with
  | a :: _ => a
  | [] => Config.freeAnswer s.nAnswers

/-- The answer is used. -/
def State.answered (s : State) : State :=
  { s with answers := s.answers.tail, nAnswers := s.nAnswers + 1 }

/-! ### Segments and devices -/

/-- Segment `i` is electrically connected to the master exactly when `MUXREG[i] = 1` (10_state.md R31); every other
segment is isolated. -/
def segmentConnected (mux : Byte) (i : Channel) : Bool := mux.getLsbD i.toNat

/-- The connected segments, in order. -/
def connectedSegments (mux : Byte) : List Channel :=
  [0, 1, 2, 3, 4, 5, 6, 7].filter (segmentConnected mux)

/-- A device behind the bus: the multiplexer on the upstream segment, the sensor on a downstream one (20_memory.md R50,
R63). Whether a sensor is wired on a segment is the environment's: an absent one does not acknowledge. -/
inductive Device where
  | multiplexer
  | sensor (segment : Channel)
  deriving DecidableEq, Repr

/-- The devices a transaction to `a` reaches (R51): the multiplexer whatever `MUXREG` holds; the sensor on every connected
segment, and on no other. Several at once are an address collision. -/
def devicesReached (c : Config) (mux : Byte) (a : Addr) : List Device :=
  if a = c.muxAddr then [.multiplexer]
  else if a = c.sensorAddr then (connectedSegments mux).map .sensor
  else []

/-- Whether a transaction to `a` can be answered: it reaches a device, or it goes to an address the block never uses
(R63), which is left to the environment (log 15). -/
def reaches (c : Config) (mux : Byte) (a : Addr) : Bool :=
  !(devicesReached c mux a).isEmpty || (a != c.muxAddr && a != c.sensorAddr)

/-! ### Transactions -/

/-- Response of `BusWrite(a, bs)` here (R53): with no device reached the address byte is refused (R51). -/
def State.writeResp (s : State) (a : Addr) (bs : List Byte) : Resp :=
  (writeFrame a bs [reaches s.cfg s.muxreg a && s.answer.addrAck, s.answer.dataAck]).resp

/-- `BusWrite(a, bs)`: one record in the bus history, one answer used (R53, 10_state.md R32). The bytes the block
attempted stand in the record whether or not they were acknowledged (log 14). -/
def State.busWrite (s : State) (a : Addr) (bs : List Byte) : State :=
  { s.answered with busHist := s.busHist ++ [⟨.write, a, bs, s.writeResp a bs, [], s.muxreg⟩] }

/-- The three bytes an acknowledged read returns here (R54). -/
def State.readData (s : State) : List Byte := [s.answer.m, s.answer.l, s.answer.c]

/-- Response of `BusRead(a, 3)` here (R54). -/
def State.readResp (s : State) (a : Addr) : Resp :=
  (readFrame a s.readData (reaches s.cfg s.muxreg a && s.answer.addrAck)).resp

/-- `BusRead(a, 3)`: one record, one answer used; a refused read transfers no data (R54, 41_sensor_protocol.md R126). -/
def State.busRead (s : State) (a : Addr) : State :=
  { s.answered with
    busHist := s.busHist ++
      [⟨.read, a, [], s.readResp a, if s.readResp a = .ack then s.readData else [], s.muxreg⟩] }

/-! ### The three uses of the bus -/

/-- Response of a multiplexer write of `b` here. -/
def State.muxResp (s : State) (b : Byte) : Resp := s.writeResp s.cfg.muxAddr [b]

/-- A multiplexer write of `b` with its device effect: `MUXREG` becomes `b` if acknowledged (R102), a draw if not
(R103). -/
def State.muxWrite (s : State) (b : Byte) : State :=
  { s.busWrite s.cfg.muxAddr [b] with
    muxreg := if s.muxResp b = .ack then b else s.answer.mux }

/-- Response of the trigger of kind `k` here. -/
def State.trigResp (s : State) (k : Kind) : Resp := s.writeResp s.cfg.sensorAddr [triggerCmd s.cfg k]

/-- `TRIG_T` or `TRIG_RH` (41_sensor_protocol.md R120, R121). -/
def State.trigger (s : State) (k : Kind) : State := s.busWrite s.cfg.sensorAddr [triggerCmd s.cfg k]

/-- Response of a poll here. -/
def State.pollResp (s : State) : Resp := s.readResp s.cfg.sensorAddr

/-- `POLL` (R125): an acknowledged poll captures the three bytes in the order received (30_encoding.md R76); a
refused one captures nothing. -/
def State.pollOnce (s : State) : State :=
  if s.pollResp = .ack then
    { s.busRead s.cfg.sensorAddr with msb := s.answer.m, lsb := s.answer.l, chk := s.answer.c }
  else
    s.busRead s.cfg.sensorAddr

/-! ### Events -/

/-- `emit E` (44_acquisition.md R214). -/
def State.emit (s : State) (e : Event) : State := { s with sinkHist := s.sinkHist ++ [e] }

/-! ### Taking a failure, and leaving it -/

/-- `raise Fail(code, phase)` (60_exceptions.md R236). -/
def State.raiseFail (s : State) (code : ErrCode) (phase : Phase) : State :=
  { s with errCode := code.bits, errPhase := phase.bits, wait := 0, st := St.failed }

/-- The end of an iteration, after its event: next channel, inter-channel delay, `IDLE` (44_acquisition.md R200,
R201; 60_exceptions.md R239). -/
def State.toNextChannel (s : State) : State :=
  { s with idx := nextIdx s.cfg s.idx, wait := s.cfg.channelDelay, st := St.idle }

/-! ### Reset (70_reset_and_hazards.md) -/

/-- Reset of a running block, between two steps (R260, R262): every register takes its reset value, the histories
are empty, nothing is issued or emitted; `MUXREG` and the environment are not reset (R263; log 16). -/
def State.warmReset (s : State) : State :=
  { State.resetWith s.cfg s.muxreg with answers := s.answers, nAnswers := s.nAnswers }

end Sys2Proof.Machine
end

