-- ==== Sys2Proof/Machine/Fetch.lean ====
section
/-! DEFINITION. What the next step runs: a presented operation (log 6), else the step selected by `st` and `wait`
(spec/44_acquisition.md R190, spec/30_encoding.md R84). -/

namespace Sys2Proof.Machine

/-- The step-select code `{st, wait = 0}` (R84). -/
def State.selectCode (s : State) : BitVec 5 := s.st ++ BitVec.ofBool (s.wait == 0)

/-- The bytes the next step decodes: presented ones, if there are any, before the select code.
DESIGN CHOICE (log 31): the spec does not say how R190's checks of `st` and `wait` apply to an operation given from
outside; here it runs whatever they hold, so it takes no `IllegalState` and no tick comes first. -/
def State.fetchBytes (s : State) : List Byte :=
  match s.presented with
  | [] => selectByte s.selectCode
  | b :: bs => b :: bs

/-- A presented operation runs once. -/
def State.consume (s : State) : State := { s with presented := [] }

/-- The operation the next step runs, or why there is none: bytes that do not decode, and `MUXOFF`, which a model that
is given it as an input to the step function refuses (93 U8; log 9). R190's checks of `st` and `wait` apply to the select
code only, not to presented bytes (DESIGN CHOICE, log 31). -/
def fetch (s : State) : Except Refusal Instr :=
  match decode s.cfg s.fetchBytes with
  | .ok i => if i = .muxoff then .error .muxoffGiven else .ok i
  | .error e => .error (.undecodable e)

/-- The state set so that the step-select code is `w`: `st` is its upper four bits, and `wait` is zero exactly when
bit 0 is set. -/
def State.withSelect (s : State) (w : BitVec 5) : State :=
  { s with
    st := w.extractLsb' 1 4
    wait := if w.getLsbD 0 then 0 else max s.wait 1
    presented := [] }

/-- The state set so that its next step runs bytes `bs`: a step-select code is put into `st` and `wait`, any other
operation is presented (log 6). -/
def State.withBytes (s : State) (bs : List Byte) : State :=
  match bs with
  | [b] => if b.extractLsb' 5 3 = 0#3 then s.withSelect (b.extractLsb' 0 5) else { s with presented := [b] }
  | bs => { s with presented := bs }

/-- The state set so that its next step runs an opcode-table number. The table writes its rows under the default
addresses and commands, so the number is a row's only in a block built with those: they are put into the
configuration with it, and the rest of the configuration stays (log 6). -/
def State.withTableWord (s : State) (nbits w : Nat) : State :=
  { s with cfg := s.cfg.withTableDevices }.withBytes (tableBytes nbits w)

end Sys2Proof.Machine
end

