-- ==== Sys2Proof/Machine/Acquisition.lean ====
section
/-! DEFINITION. The steps of the acquisition state machine (spec/44_acquisition.md), one per value of `st`, and the
illegal-state fault (spec/10_state.md R21). -/

namespace Sys2Proof.Machine

/-! ### Shared parts of the step rules -/

/-- `attempts <- 0; wait <- P_POLL_INTERVAL; goto` the polling state (R194, R197). -/
def State.startPolling (s : State) (polling : BitVec 4) : State :=
  { s with attempts := 0, wait := s.cfg.pollInterval, st := polling }

/-- One poll attempt of a kind (R195, R198): on ACK the bytes are captured and the read state follows; on NACK of
the last permitted attempt the measurement times out, otherwise the state stays and the poll interval is loaded. -/
def State.pollingStep (s : State) (k : Kind) (read : BitVec 4) : State :=
  match s.pollResp with
  | .ack => { s.pollOnce with attempts := s.attempts + 1, st := read }
  | .nack =>
    if s.attempts + 1 = pollMax s.cfg k then
      { s.pollOnce with attempts := s.attempts + 1 }.raiseFail .timeout (pollPhase k)
    else
      { s.pollOnce with attempts := s.attempts + 1, wait := s.cfg.pollInterval }

/-! ### The steps -/

/-- `TICK` (R191). With nothing to count it leaves `wait` at zero: the Tick source only decrements `wait` when
`wait > 0` (60_exceptions.md R243; log 11). -/
def execTick (_st : BitVec 4) (s : State) : Result := .next { s with wait := s.wait - 1 }

/-- The iteration's channel, and the event that starts it (R192, first two lines). -/
def State.startIteration (s : State) : State :=
  { s with ch := channelAt s.cfg s.idx }.emit (.cycleStart (channelAt s.cfg s.idx))

/-- The `MUXW` of `S_IDLE` (R192, from the third line), in the state after `startIteration`. -/
def State.selectStep (s : State) : State :=
  match s.muxResp (muxMask s.ch) with
  | .ack => { s.muxWrite (muxMask s.ch) with wait := s.cfg.settle, st := St.chSelected }
  | .nack => (s.muxWrite (muxMask s.ch)).raiseFail .noAck .select

/-- `S_IDLE` (R192). -/
def execSIdle (s : State) : Result := .next s.startIteration.selectStep

/-- `S_CH_SELECTED` (R193). -/
def execSChSelected (s : State) : Result :=
  .next (match s.trigResp .temperature with
    | .ack => { s.trigger .temperature with st := St.tTriggered }
    | .nack => (s.trigger .temperature).raiseFail .noAck .trigT)

/-- `S_T_TRIGGERED` (R194). -/
def execSTTriggered (s : State) : Result := .next (s.startPolling St.tPolling)

/-- `S_T_POLLING` (R195). -/
def execSTPolling (s : State) : Result := .next (s.pollingStep .temperature St.tRead)

/-- The part of `S_T_READ` after a valid checksum (R196): the word is stored, then humidity is triggered. -/
def State.storeAndTriggerRh (s : State) : State :=
  match s.trigResp .humidity with
  | .ack => { s.trigger .humidity with tWord := wordOf s.msb s.lsb, st := St.rhTriggered }
  | .nack => { s.trigger .humidity with tWord := wordOf s.msb s.lsb }.raiseFail .noAck .trigRh

/-- `S_T_READ` (R196): the checksum is checked first, so a mismatch issues no transaction (60_exceptions.md R238). -/
def execSTRead (s : State) : Result :=
  .next (if crcValid s.msb s.lsb s.chk then s.storeAndTriggerRh else s.raiseFail .checksumMismatch .readT)

/-- `S_RH_TRIGGERED` (R197). -/
def execSRhTriggered (s : State) : Result := .next (s.startPolling St.rhPolling)

/-- `S_RH_POLLING` (R198). -/
def execSRhPolling (s : State) : Result := .next (s.pollingStep .humidity St.rhRead)

/-- `S_RH_READ` (R199). -/
def execSRhRead (s : State) : Result :=
  .next (if crcValid s.msb s.lsb s.chk then { s with rhWord := wordOf s.msb s.lsb, st := St.done }
    else s.raiseFail .checksumMismatch .readRh)

/-- `S_DONE` (R200). -/
def execSDone (s : State) : Result := .next (s.emit (.reading s.ch s.tWord s.rhWord)).toNextChannel

/-- `S_FAILED` (R201). -/
def execSFailed (s : State) : Result := .next (s.emit (.fail s.ch s.errCode s.errPhase)).toNextChannel

/-- `FAULT_ILLEGAL_STATE`, `st` 10 or 11 (10_state.md R21). -/
def execFaultIllegalState101 (_x : BitVec 2) (_s : State) : Result := .fault .illegalState

/-- `FAULT_ILLEGAL_STATE`, `st` 12 to 15 (R21). -/
def execFaultIllegalState11 (_x : BitVec 3) (_s : State) : Result := .fault .illegalState

end Sys2Proof.Machine
end

