-- ==== Sys2Proof/Machine/Mux.lean ====
section
/-! DEFINITION. The multiplexer writer (spec/40_mux_writer.md). Each row is a definition of its own over the shared
`selectChannel` and `muxWrite`. -/

namespace Sys2Proof.Machine

/-- `MUXW ch`, also the source's `selectChannel(ch)` (R100, 30_encoding.md R93): the write and its device effect, and
`NoAck` in phase `SELECT` when it is refused (R100 "Exceptions"; log 7).
DESIGN CHOICE (log 32): a row run on its own does not write `ch`, which is `S_IDLE`'s to write (10_state.md R20), so after
its refusal `S_FAILED` reports the `ch` that stands there, not the row's channel. -/
def State.selectChannel (s : State) (ch : Channel) : State :=
  match s.muxResp (muxMask ch) with
  | .ack => s.muxWrite (muxMask ch)
  | .nack => (s.muxWrite (muxMask ch)).raiseFail .noAck .select

/-- `MUXW 0`. -/
def execMuxw0 (s : State) : Result := .next (s.selectChannel 0)

/-- `MUXW 1`. -/
def execMuxw1 (s : State) : Result := .next (s.selectChannel 1)

/-- `MUXW 2`. -/
def execMuxw2 (s : State) : Result := .next (s.selectChannel 2)

/-- `MUXW 3`. -/
def execMuxw3 (s : State) : Result := .next (s.selectChannel 3)

/-- `MUXW 4`. -/
def execMuxw4 (s : State) : Result := .next (s.selectChannel 4)

/-- `MUXW 5`. -/
def execMuxw5 (s : State) : Result := .next (s.selectChannel 5)

/-- `MUXW 6`. -/
def execMuxw6 (s : State) : Result := .next (s.selectChannel 6)

/-- `MUXW 7`. -/
def execMuxw7 (s : State) : Result := .next (s.selectChannel 7)

/-- `MUXOFF` (R106): the write of 0x00 and its device effect; no exception. The block never issues it, and
`step` refuses it as an input (93 U8; log 9). -/
def execMuxoff (s : State) : Result := .next (s.muxWrite 0x00)

end Sys2Proof.Machine
end

