-- ==== Sys2Proof/Machine/Sensor.lean ====
section
/-! DEFINITION. The sensor transactions (spec/41_sensor_protocol.md). -/

namespace Sys2Proof.Machine

/-- The trigger of a kind, and `NoAck` in its trigger phase when it is refused (R120, R121 "Exceptions"; log 7).
DESIGN CHOICE (log 32): run on its own after a reset, `S_FAILED` then reports the `ch` that stands there. -/
def State.triggerOrFail (s : State) (k : Kind) : State :=
  match s.trigResp k with
  | .ack => s.trigger k
  | .nack => (s.trigger k).raiseFail .noAck (trigPhase k)

/-- `TRIG_T` (R120). -/
def execTrigT (s : State) : Result := .next (s.triggerOrFail .temperature)

/-- `TRIG_RH` (R121). -/
def execTrigRh (s : State) : Result := .next (s.triggerOrFail .humidity)

/-- `TRIG_T_HOLD` (R122): the spec gives it no semantics and refuses it (93 U8; log 10). -/
def execTrigTHold (_s : State) : Result := .refused .holdMasterTrigger

/-- `TRIG_RH_HOLD` (R122): as `TRIG_T_HOLD`. -/
def execTrigRhHold (_s : State) : Result := .refused .holdMasterTrigger

/-- `POLL` (R125): one attempt. A NACK is not an error; counting attempts is the polling step's. -/
def execPoll (s : State) : Result := .next s.pollOnce

end Sys2Proof.Machine
end

