-- ==== Sys2Proof/Machine/Validator.lean ====
section
/-! DEFINITION. The CRC-8 validator as an operation of its own (spec/42_crc8.md R163). -/

namespace Sys2Proof.Machine

/-- `CRC_CHECK` over three bytes (R163): a valid frame changes nothing (R168); an invalid one is `ChecksumMismatch`
in the read phase of the measurement in progress (60_exceptions.md R233). DEDUCED (log 8): that the row run on its own
takes this failure; the validator itself writes nothing, and in the block's runs the read steps take it.
DESIGN CHOICE (log 32): after it `S_FAILED` reports the `ch` that stands there. -/
def execCrcCheck (msb lsb chk : Byte) (s : State) : Result :=
  .next (if crcValid msb lsb chk then s else s.raiseFail .checksumMismatch (readPhase (kindOrFree s.st)))

end Sys2Proof.Machine
end

