-- ==== Sys2Proof/Machine/Dispatch.lean ====
section
/-! DEFINITION. The dispatch of the operations: one arm per constructor of Instr. -/

namespace Sys2Proof.Machine

def exec (i : Instr) (s : State) : Host.Outcome State Fault Refusal :=
  match i with
  | .muxw0 => Sys2Proof.Machine.execMuxw0 s
  | .muxw1 => Sys2Proof.Machine.execMuxw1 s
  | .muxw2 => Sys2Proof.Machine.execMuxw2 s
  | .muxw3 => Sys2Proof.Machine.execMuxw3 s
  | .muxw4 => Sys2Proof.Machine.execMuxw4 s
  | .muxw5 => Sys2Proof.Machine.execMuxw5 s
  | .muxw6 => Sys2Proof.Machine.execMuxw6 s
  | .muxw7 => Sys2Proof.Machine.execMuxw7 s
  | .muxoff => Sys2Proof.Machine.execMuxoff s
  | .trigT => Sys2Proof.Machine.execTrigT s
  | .trigRh => Sys2Proof.Machine.execTrigRh s
  | .trigTHold => Sys2Proof.Machine.execTrigTHold s
  | .trigRhHold => Sys2Proof.Machine.execTrigRhHold s
  | .poll => Sys2Proof.Machine.execPoll s
  | .crcCheck msb lsb chk => Sys2Proof.Machine.execCrcCheck msb lsb chk s
  | .tick st => Sys2Proof.Machine.execTick st s
  | .sIdle => Sys2Proof.Machine.execSIdle s
  | .sChSelected => Sys2Proof.Machine.execSChSelected s
  | .sTTriggered => Sys2Proof.Machine.execSTTriggered s
  | .sTPolling => Sys2Proof.Machine.execSTPolling s
  | .sTRead => Sys2Proof.Machine.execSTRead s
  | .sRhTriggered => Sys2Proof.Machine.execSRhTriggered s
  | .sRhPolling => Sys2Proof.Machine.execSRhPolling s
  | .sRhRead => Sys2Proof.Machine.execSRhRead s
  | .sDone => Sys2Proof.Machine.execSDone s
  | .sFailed => Sys2Proof.Machine.execSFailed s
  | .faultIllegalState101 x => Sys2Proof.Machine.execFaultIllegalState101 x s
  | .faultIllegalState11 x => Sys2Proof.Machine.execFaultIllegalState11 x s

end Sys2Proof.Machine
end

