-- ==== Sys2Proof/Machine/Step.lean ====
section
/-! DEFINITION. One step of the block (spec/44_acquisition.md R190), a bounded run, and the placing of an
opcode-table row where the next step runs it. -/

namespace Sys2Proof.Machine

/-- One step: refuse an ill-formed configuration (00_scope.md R8, 93 U10), decode what is to run, run it. -/
def step (s : State) : Host.Outcome State Fault Refusal :=
  match s.cfg.wf with
  | true =>
    match fetch s with
    | .ok i => exec i s.consume
    | .error r => .refused r
  | false => .refused .illFormedConfiguration

/-- `n` steps, stopping at the first fault or refusal. -/
def run : Nat → State → Host.Outcome State Fault Refusal
  | 0, s => .next s
  | n + 1, s =>
    match step s with
    | .next t => run n t
    | .fault f => .fault f
    | .refused r => .refused r

/-- The state whose very next step runs the opcode-table number `w` (log 6). -/
def State.withFetchWord (s : State) (nbits w : Nat) : State := s.withTableWord nbits w

end Sys2Proof.Machine
end

