-- ==== Sys2Proof/Machine/History.lean ====
section
/-! DEFINITION. Reading the histories: the total decoder of bus records (spec/30_encoding.md R85, R91), the bytes of a
record (R83), attribution of a sensor record to a channel (spec/40_mux_writer.md R104), and the observation of a part
of a run (spec/44_acquisition.md R216). -/

namespace Sys2Proof.Machine

/-- The operation a bus record stands for (R85), or `notABlockOperation` (R91).
DESIGN CHOICE (log 28): R85 does not say what a read record is whose `sent` is not empty, nor one whose `recv` has not
the length its response gives it; the first is reported as `notABlockOperation`, and `recv` is not looked at, so a sensor
read is `POLL` whatever it holds. No record the block makes has such a shape. -/
def decodeRecord (c : Config) (r : BusRecord) : Except DecodeError Instr :=
  match r.dir, r.sent with
  | .write, [b] => decodeWrite c (addrByte r.addr .write) b
  | .read, [] => decodeRead c (addrByte r.addr .read)
  | _, _ => .error .notABlockOperation

/-- The rows the block issues on the bus (R83, column "issued by the Block"). -/
def issuedByBlock : Instr → Bool
  | .muxw0 | .muxw1 | .muxw2 | .muxw3 | .muxw4 | .muxw5 | .muxw6 | .muxw7 => true
  | .trigT | .trigRh | .poll => true
  | .muxoff | .trigTHold | .trigRhHold => false
  | .crcCheck _ _ _ => false
  | .tick _ => false
  | .sIdle | .sChSelected | .sTTriggered | .sTPolling | .sTRead => false
  | .sRhTriggered | .sRhPolling | .sRhRead | .sDone | .sFailed => false
  | .faultIllegalState101 _ | .faultIllegalState11 _ => false

/-- Every record decodes to a row the block issues (R80, R81, R91). -/
def recordIssued (c : Config) (r : BusRecord) : Bool :=
  match decodeRecord c r with
  | .ok i => issuedByBlock i
  | .error _ => false

/-- The bytes of a record in bus order: the address byte, then those sent or received (R71, R72). -/
def recordBytes (r : BusRecord) : List Byte := addrByte r.addr r.dir :: r.sent ++ r.recv

/-- The devices a record's transaction reached: the segments connected when it was issued (10_state.md R31). -/
def recordDevices (c : Config) (r : BusRecord) : List Device := devicesReached c r.muxAtIssue r.addr

/-- A record of the sensor attributed to channel `k` (40_mux_writer.md R104). -/
def attributedTo (c : Config) (k : Channel) (r : BusRecord) : Prop :=
  r.addr = c.sensorAddr ∧ r.muxAtIssue = muxMask k

/-- What a part of a run appended to the two histories (10_state.md R32, 44_acquisition.md R216). -/
structure Observation where
  bus  : List BusRecord
  sink : List Event
  deriving DecidableEq, Repr

/-- The observation of a run from `s` to `t`. -/
def observed (s t : State) : Observation :=
  ⟨t.busHist.drop s.busHist.length, t.sinkHist.drop s.sinkHist.length⟩

end Sys2Proof.Machine
end

