-- ==== Sys2Proof/Machine/Conversion.lean ====
section
/-! DEFINITION. The consumer's side: unit conversion over exact rationals (spec/43_conversion.md), the reading formed
from an event (R184), and the Sink as a function of the event history (spec/44_acquisition.md R214, R215). The block
computes none of it (92 D28). -/

namespace Sys2Proof.Machine

/-- `tempC(code)` in degrees Celsius (R180); no clamping. -/
def tempC (code : Word) : Rat := -4685 / 100 + 17572 / 100 * code.toNat / 65536

/-- `rh(code)` before clamping (R181). -/
def rhRaw (code : Word) : Rat := -6 + 125 * code.toNat / 65536

/-- `humidityPct(code)`: clamped to [0, 100] (R181). -/
def humidityPct (code : Word) : Rat := min (max (rhRaw code) 0) 100

/-- The source's `PhysicalReading` (10_state.md R27). -/
structure PhysicalReading where
  temperatureCelsius : Rat
  humidityPercent    : Rat
  channel            : Channel
  deriving DecidableEq, Repr

/-- A reading is formed only from a `READING` event, from the masked codes (R182, R184). -/
def physicalReading : Event → Option PhysicalReading
  | .reading ch t rh => some ⟨tempC (codeOf t), humidityPct (codeOf rh), ch⟩
  | .cycleStart _ => none
  | .fail _ _ _ => none

/-- A float consumer's value `x` agrees with the exact value to within a tolerance, a parameter (R183, 93 U13). -/
def agreesWithin (tolerance x exact : Rat) : Prop := |x - exact| ≤ tolerance

/-- The Sink: what its display shows, and the last-known reading of each channel, newest first (10_state.md R35).
How the display renders them is the Sink's own (93 U11). -/
structure Sink where
  shown : Option PhysicalReading
  known : List PhysicalReading
  deriving DecidableEq, Repr

/-- The Sink takes one event (R215): `CYCLE_START` clears the display, `READING` converts and shows, `FAIL` updates
nothing (60_exceptions.md R235).
DESIGN CHOICE (log 29): whether a Sink shows an indicator on `FAIL` is left open (30_encoding.md R86, 93 U12); this Sink
has none and ignores the event. -/
def Sink.accept (k : Sink) : Event → Sink
  | .cycleStart _ => { k with shown := none }
  | .reading ch t rh =>
    { shown := physicalReading (.reading ch t rh)
      known := (physicalReading (.reading ch t rh)).toList ++ k.known.filter (·.channel != ch) }
  | .fail _ _ _ => k

/-- The Sink after a history of events.
DESIGN CHOICE (log 30): what a Sink shows and knows before its first event is not in the spec; this one starts with
nothing shown and no last-known reading, and a reset of the block, which empties the history, starts it so again. -/
def sinkOf (es : List Event) : Sink := es.foldl Sink.accept ⟨none, []⟩

end Sys2Proof.Machine
end

