-- ==== Sys2Proof/Machine/Reference.lean ====
section
/-! DEFINITION. The source's contracts as big-step functions (spec/30_encoding.md R93, spec/41_sensor_protocol.md R134,
spec/44_acquisition.md R205): `measure(kind)` and one whole iteration over one channel. They use the bus operations of
Machine/Ops.lean and none of the state machine; waits are left out, since the model observes no time (10_state.md
R32). That the state machine runs exactly these sequences is a statement about `step`. -/

namespace Sys2Proof.Machine

/-- What a contract returns: a value, or the error and the phase it raises. -/
abbrev Contract (α : Type) := Except (ErrCode × Phase) α

/-- The poll loop of R134 with `left` attempts left. -/
def pollLoop (k : Kind) : Nat → State → Contract Unit × State
  | 0, s => (.error (.timeout, pollPhase k), s)
  | left + 1, s =>
    match s.pollResp with
    | .ack => (.ok (), { s.pollOnce with attempts := s.attempts + 1 })
    | .nack => pollLoop k left { s.pollOnce with attempts := s.attempts + 1 }

/-- Steps 4 of R134: check the captured bytes, return the word. -/
def checkCaptured (k : Kind) (s : State) : Contract Word :=
  if crcValid s.msb s.lsb s.chk then .ok (wordOf s.msb s.lsb) else .error (.checksumMismatch, readPhase k)

/-- `measure(kind)` (R134): trigger, poll at most the budget, check. -/
def measureContract (k : Kind) (s : State) : Contract Word × State :=
  match s.trigResp k with
  | .nack => (.error (.noAck, trigPhase k), s.trigger k)
  | .ack =>
    match pollLoop k (pollMax s.cfg k) { s.trigger k with attempts := 0 } with
    | (.error e, t) => (.error e, t)
    | (.ok (), t) => (checkCaptured k t, t)

/-- The failure branch of an iteration: record the error, report it, go on to the next channel (60_exceptions.md
R236, R239). -/
def State.failIteration (s : State) (e : ErrCode × Phase) : State :=
  let t := s.raiseFail e.1 e.2
  (t.emit (.fail t.ch t.errCode t.errPhase)).toNextChannel

/-- One iteration over the channel of `idx`, up to the load of the inter-channel delay: select, temperature, humidity,
then `READING`; the first error ends it with `FAIL` (44_acquisition.md R205). -/
def acquire (s : State) : State :=
  let s0 := { s with ch := channelAt s.cfg s.idx }.emit (.cycleStart (channelAt s.cfg s.idx))
  let s1 := s0.muxWrite (muxMask s0.ch)
  match s0.muxResp (muxMask s0.ch) with
  | .nack => s1.failIteration (.noAck, .select)
  | .ack =>
    match measureContract .temperature s1 with
    | (.error e, s2) => s2.failIteration e
    | (.ok w, s2) =>
      match measureContract .humidity { s2 with tWord := w } with
      | (.error e, s3) => s3.failIteration e
      | (.ok w', s3) =>
        let s4 := { s3 with rhWord := w' }
        (s4.emit (.reading s4.ch s4.tWord s4.rhWord)).toNextChannel

/-- The bound `B` of 44_acquisition.md R212 on the steps of an iteration. -/
def iterationBound (c : Config) : Nat :=
  7 + c.settle + (c.pollMaxT + c.pollMaxRh) * (c.pollInterval + 1) + c.channelDelay

end Sys2Proof.Machine
end

