-- ==== Sys2Proof/Safety.lean ====
section
/-! DEFINITION. What counts as a safe state and a safe history, in the terms the statements use: the invariant of the
block, what its histories may hold, which registers are valid where (spec/10_state.md R36), and the named assumption
on the environment (spec/41_sensor_protocol.md R132). -/

namespace Sys2Proof.Machine

/-- The block runs its own steps: the configuration passes its check and nothing is presented from outside. -/
def State.Free (s : State) : Prop := s.cfg.wf = true ∧ s.presented = []

/-- `st` is a state in which the selected channel is in use: `CH_SELECTED` to `DONE` (10_state.md R21). -/
def inIteration (st : BitVec 4) : Prop := 1 ≤ st.toNat ∧ st.toNat ≤ 8

/-- The invariant of the block. -/
structure BlockInv (s : State) : Prop where
  free : s.Free
  /-- No rule writes 10..15 to `st` (R21). -/
  legalSt : s.st.toNat ≤ 9
  /-- `idx` indexes `P_CHANNELS` (R20). -/
  idxInRange : s.idx < s.cfg.channels.length
  /-- The bounds of 00_scope.md R9. -/
  waitBound : s.wait ≤ maxWait s.cfg
  attemptsBound : s.attempts ≤ maxAttempts s.cfg
  /-- While polling, the budget is not spent (44_acquisition.md R195, R198). -/
  budgetT : s.st = St.tPolling → s.attempts < s.cfg.pollMaxT
  budgetRh : s.st = St.rhPolling → s.attempts < s.cfg.pollMaxRh
  /-- `ch` is the channel of `idx` from the first step of an iteration to its last (R20). -/
  channel : s.st ≠ St.idle → s.ch = channelAt s.cfg s.idx
  /-- Exactly the channel's bit is set while it is in use (R210). -/
  oneHot : inIteration s.st → s.muxreg = muxMask s.ch
  /-- In `FAILED` the error registers hold a legal pair (30_encoding.md R88). -/
  legalError : s.st = St.failed →
    ∃ c p, legalPair c p = true ∧ s.errCode = c.bits ∧ s.errPhase = p.bits

/-- A bus history with every sensor record attributed to one configured channel (40_mux_writer.md R104) and every
record an operation the block issues (30_encoding.md R80, R81, R91). -/
def busHistorySafe (c : Config) (h : List BusRecord) : Prop :=
  ∀ r ∈ h, recordIssued c r = true ∧
    (r.addr = c.sensorAddr → ∃ n ∈ c.channels, attributedTo c (BitVec.ofNat 3 n) r)

/-- `h` holds an acknowledged sensor read on channel `k` that returned the two bytes of `w` with a valid checksum. -/
def verifiedOn (c : Config) (h : List BusRecord) (k : Channel) (w : Word) : Prop :=
  ∃ r ∈ h, ∃ m l x, r.dir = .read ∧ r.resp = .ack ∧ r.recv = [m, l, x] ∧ attributedTo c k r ∧
    crcValid m l x = true ∧ w = wordOf m l

/-- The captured bytes are those of an acknowledged sensor read on channel `k`. -/
def capturedOn (c : Config) (h : List BusRecord) (k : Channel) (m l x : Byte) : Prop :=
  ∃ r ∈ h, r.dir = .read ∧ r.resp = .ack ∧ r.recv = [m, l, x] ∧ attributedTo c k r

/-- Every word on its way to the Sink, and every word handed to it, was read from its channel with a valid checksum
(41_sensor_protocol.md R133). -/
structure Verified (s : State) : Prop where
  captured : s.st = St.tRead ∨ s.st = St.rhRead → capturedOn s.cfg s.busHist s.ch s.msb s.lsb s.chk
  tWord : 5 ≤ s.st.toNat ∧ s.st.toNat ≤ 8 → verifiedOn s.cfg s.busHist s.ch s.tWord
  rhWord : s.st = St.done → verifiedOn s.cfg s.busHist s.ch s.rhWord
  readings : ∀ k t rh, Event.reading k t rh ∈ s.sinkHist →
    verifiedOn s.cfg s.busHist k t ∧ verifiedOn s.cfg s.busHist k rh

/-- A bus record without `mux_at_issue`: what is on the bus. -/
def BusRecord.signals (r : BusRecord) : Dir × Addr × List Byte × Resp × List Byte :=
  (r.dir, r.addr, r.sent, r.resp, r.recv)

/-- Two states that agree on everything a register validity table (10_state.md R36) lets a step rely on: a register
is compared only where it is valid, and `MUXREG` only while a channel is in use. -/
structure AgreeWhereValid (s t : State) : Prop where
  cfg : s.cfg = t.cfg
  st : s.st = t.st
  idx : s.idx = t.idx
  wait : s.wait = t.wait
  answers : s.answers = t.answers
  nAnswers : s.nAnswers = t.nAnswers
  noneL : s.presented = []
  noneR : t.presented = []
  sink : s.sinkHist = t.sinkHist
  bus : s.busHist.map BusRecord.signals = t.busHist.map BusRecord.signals
  ch : s.st ≠ St.idle → s.ch = t.ch
  attempts : s.st = St.tPolling ∨ s.st = St.rhPolling → s.attempts = t.attempts
  bytes : s.st = St.tRead ∨ s.st = St.rhRead → s.msb = t.msb ∧ s.lsb = t.lsb ∧ s.chk = t.chk
  tWord : 5 ≤ s.st.toNat ∧ s.st.toNat ≤ 8 → s.tWord = t.tWord
  rhWord : s.st = St.done → s.rhWord = t.rhWord
  err : s.st = St.failed → s.errCode = t.errCode ∧ s.errPhase = t.errPhase
  mux : inIteration s.st → s.muxreg = t.muxreg

/-- An answer that acknowledges a two-byte write. -/
def Answer.accepts (a : Answer) : Prop := a.addrAck = true ∧ a.dataAck = true

/-- An answer that returns word `w` with its own checksum to a read. -/
def Answer.returns (a : Answer) (w : Word) : Prop :=
  a.addrAck = true ∧ a.m = w.extractLsb' 8 8 ∧ a.l = w.extractLsb' 0 8 ∧ a.c = crc8 [a.m, a.l]

/-- The environment's answers to one iteration under `WellBehavedMux` and `WellBehavedSensor(c, wT, wRH, kT, kRH)`
(41_sensor_protocol.md R132): the select and both triggers are acknowledged, the first `kT - 1` and `kRH - 1` polls
are refused, and the last poll of each kind returns the word with its checksum; `rest` answers what comes after. -/
structure WellBehaved (c : Config) (wT wRh : Word) (kT kRh : Nat) (rest : List Answer) (as : List Answer) : Prop where
  budgets : 1 ≤ kT ∧ kT ≤ c.pollMaxT ∧ 1 ≤ kRh ∧ kRh ≤ c.pollMaxRh
  shape : ∃ sel trT trRh readT readRh busyT busyRh,
    as = sel :: trT :: busyT ++ readT :: trRh :: busyRh ++ readRh :: rest ∧
    Answer.accepts sel ∧ Answer.accepts trT ∧ Answer.accepts trRh ∧
    busyT.length = kT - 1 ∧ busyRh.length = kRh - 1 ∧
    (∀ a ∈ busyT, a.addrAck = false) ∧ (∀ a ∈ busyRh, a.addrAck = false) ∧
    Answer.returns readT wT ∧ Answer.returns readRh wRh

/-! ### Expected effects, in the spec's own terms -/

/-- One more write record of one data byte, and one answer used (20_memory.md R53, 10_state.md R32). -/
def afterWrite (s : State) (a : Addr) (b : Byte) (r : Resp) : State :=
  { s with
    busHist := s.busHist ++ [⟨.write, a, [b], r, [], s.muxreg⟩]
    answers := s.answers.tail
    nAnswers := s.nAnswers + 1 }

/-- One more read record of the sensor, and one answer used (R54, R32). -/
def afterRead (s : State) (r : Resp) (bytes : List Byte) : State :=
  { s with
    busHist := s.busHist ++ [⟨.read, s.cfg.sensorAddr, [], r, bytes, s.muxreg⟩]
    answers := s.answers.tail
    nAnswers := s.nAnswers + 1 }

/-- A failure taken, with its code and phase as numbers (60_exceptions.md R236). -/
def afterFail (s : State) (code : BitVec 2) (phase : BitVec 3) : State :=
  { s with errCode := code, errPhase := phase, wait := 0, st := 9 }

/-- The sensor is reached and acknowledges its address byte (20_memory.md R51, R54). -/
def sensorAnswers (s : State) : Prop := s.muxreg ≠ 0 ∧ s.answer.addrAck = true

/-- The sensor is reached and acknowledges both bytes of a trigger (R51, R53). -/
def sensorAccepts (s : State) : Prop := s.muxreg ≠ 0 ∧ s.answer.addrAck = true ∧ s.answer.dataAck = true

/-- The multiplexer acknowledges both bytes of a write (R53). -/
def muxAccepts (s : State) : Prop := s.answer.addrAck = true ∧ s.answer.dataAck = true

/-- `n` executions of one operation, one after the other. -/
def repeatExec (i : Instr) : Nat → State → Result
  | 0, s => .next s
  | n + 1, s =>
    match exec i s with
    | .next t => repeatExec i n t
    | .fault f => .fault f
    | .refused r => .refused r

/-- The rows of 44_acquisition.md R202 with `wait = 0`: from, to, and `wait` after the step. -/
def transitionTable (c : Config) : List (BitVec 4 × BitVec 4 × Nat) :=
  [(0, 1, c.settle), (0, 9, 0), (1, 2, 0), (1, 9, 0), (2, 3, c.pollInterval),
   (3, 4, 0), (3, 3, c.pollInterval), (3, 9, 0), (4, 9, 0), (4, 5, 0),
   (5, 6, c.pollInterval), (6, 7, 0), (6, 6, c.pollInterval), (6, 9, 0),
   (7, 9, 0), (7, 8, 0), (8, 0, c.channelDelay), (9, 0, c.channelDelay)]

/-- The records of one iteration's bus history (R211): the select of channel `k` issued while the multiplexer held
`mux0`, and, for each kind, the trigger, the refused polls, and the poll that returned word `w`. -/
def selectRecord (c : Config) (k : Channel) (mux0 : Byte) (r : Resp) : BusRecord :=
  ⟨.write, c.muxAddr, [muxMask k], r, [], mux0⟩

def measureRecords (c : Config) (k : Channel) (cmd : Byte) (refused : Nat) (w : Word) : List BusRecord :=
  [⟨.write, c.sensorAddr, [cmd], .ack, [], muxMask k⟩] ++
  List.replicate refused ⟨.read, c.sensorAddr, [], .nack, [], muxMask k⟩ ++
  [⟨.read, c.sensorAddr, [], .ack,
    [w.extractLsb' 8 8, w.extractLsb' 0 8, crc8 [w.extractLsb' 8 8, w.extractLsb' 0 8]], muxMask k⟩]

/-- The table of 42_crc8.md R167, one row per high nibble. -/
def crcTable : List (List Byte) :=
  [[0x00, 0x31, 0x62, 0x53, 0xC4, 0xF5, 0xA6, 0x97, 0xB9, 0x88, 0xDB, 0xEA, 0x7D, 0x4C, 0x1F, 0x2E],
   [0x43, 0x72, 0x21, 0x10, 0x87, 0xB6, 0xE5, 0xD4, 0xFA, 0xCB, 0x98, 0xA9, 0x3E, 0x0F, 0x5C, 0x6D],
   [0x86, 0xB7, 0xE4, 0xD5, 0x42, 0x73, 0x20, 0x11, 0x3F, 0x0E, 0x5D, 0x6C, 0xFB, 0xCA, 0x99, 0xA8],
   [0xC5, 0xF4, 0xA7, 0x96, 0x01, 0x30, 0x63, 0x52, 0x7C, 0x4D, 0x1E, 0x2F, 0xB8, 0x89, 0xDA, 0xEB],
   [0x3D, 0x0C, 0x5F, 0x6E, 0xF9, 0xC8, 0x9B, 0xAA, 0x84, 0xB5, 0xE6, 0xD7, 0x40, 0x71, 0x22, 0x13],
   [0x7E, 0x4F, 0x1C, 0x2D, 0xBA, 0x8B, 0xD8, 0xE9, 0xC7, 0xF6, 0xA5, 0x94, 0x03, 0x32, 0x61, 0x50],
   [0xBB, 0x8A, 0xD9, 0xE8, 0x7F, 0x4E, 0x1D, 0x2C, 0x02, 0x33, 0x60, 0x51, 0xC6, 0xF7, 0xA4, 0x95],
   [0xF8, 0xC9, 0x9A, 0xAB, 0x3C, 0x0D, 0x5E, 0x6F, 0x41, 0x70, 0x23, 0x12, 0x85, 0xB4, 0xE7, 0xD6],
   [0x7A, 0x4B, 0x18, 0x29, 0xBE, 0x8F, 0xDC, 0xED, 0xC3, 0xF2, 0xA1, 0x90, 0x07, 0x36, 0x65, 0x54],
   [0x39, 0x08, 0x5B, 0x6A, 0xFD, 0xCC, 0x9F, 0xAE, 0x80, 0xB1, 0xE2, 0xD3, 0x44, 0x75, 0x26, 0x17],
   [0xFC, 0xCD, 0x9E, 0xAF, 0x38, 0x09, 0x5A, 0x6B, 0x45, 0x74, 0x27, 0x16, 0x81, 0xB0, 0xE3, 0xD2],
   [0xBF, 0x8E, 0xDD, 0xEC, 0x7B, 0x4A, 0x19, 0x28, 0x06, 0x37, 0x64, 0x55, 0xC2, 0xF3, 0xA0, 0x91],
   [0x47, 0x76, 0x25, 0x14, 0x83, 0xB2, 0xE1, 0xD0, 0xFE, 0xCF, 0x9C, 0xAD, 0x3A, 0x0B, 0x58, 0x69],
   [0x04, 0x35, 0x66, 0x57, 0xC0, 0xF1, 0xA2, 0x93, 0xBD, 0x8C, 0xDF, 0xEE, 0x79, 0x48, 0x1B, 0x2A],
   [0xC1, 0xF0, 0xA3, 0x92, 0x05, 0x34, 0x67, 0x56, 0x78, 0x49, 0x1A, 0x2B, 0xBC, 0x8D, 0xDE, 0xEF],
   [0x82, 0xB3, 0xE0, 0xD1, 0x46, 0x77, 0x24, 0x15, 0x3B, 0x0A, 0x59, 0x68, 0xFF, 0xCE, 0x9D, 0xAC]]

/-- Number of set bits. -/
def weight (n : Nat) (x : BitVec n) : Nat := (List.range n).countP x.getLsbD

/-- The frame of a 24-bit pattern: its first, second and third byte on the bus. -/
def frameValid (e : BitVec 24) : Bool :=
  crcValid (e.extractLsb' 16 8) (e.extractLsb' 8 8) (e.extractLsb' 0 8)

end Sys2Proof.Machine
end

