-- ==== Sys2Proof/Certificates/Slice0/Obligations.lean ====
section
/-! DEFINITION. The statements for the provers. Each docstring names the rule of spec/ it formalises. States are
arbitrary unless a premise says otherwise; `Config`, the environment's answers and the histories are part of the
state, so every statement holds for every configuration and every answer of the environment. -/

open Sys2Proof Sys2Proof.Machine

/-! ### Encoding -/

/-- Decode and encode agree, for every operation and every configuration that passes its check
(30_encoding.md R70 to R75, R83, R84; `CRC_CHECK` by its row of opcode_table.json). That the code spaces are told apart by
their length in bytes is the model's choice (log 17). -/
def Obligations.DecodeOfEncodeIsTheOperation : Prop :=
  ∀ (c : Config) (i : Instr), c.wf = true → i.wf = true → decode c (encode c i) = .ok i

/-- Each byte string has one meaning: bytes that decode are the encoding of what they decode to, but for the three
bytes a poll receives, which are the sensor's (R72, R83). That the code spaces are told apart by their length in bytes is
the model's choice (log 17). -/
def Obligations.DecodedBytesAreTheEncoding : Prop :=
  ∀ (c : Config) (bs : List Byte) (i : Instr), decode c bs = .ok i →
    i.wf = true ∧
    (encode c i = bs ∨ (i = .poll ∧ ∃ m l k, bs = [addrByte c.sensorAddr .read, m, l, k]))

/-- Words written out from 30_encoding.md R83 and R84, and for `CRC_CHECK` from its row of opcode_table.json (R83 and R84
give it none), under the table's defaults (log 2), decode to their operations. That the operands of `CRC_CHECK` are a code
space of their own, told by its three bytes, and how a table number is laid out in bytes are the model's choices
(log 17). -/
def Obligations.TableWordsDecode : Prop :=
  decodeTableWord 16 0xE001 = some .muxw0 ∧ decodeTableWord 16 0xE080 = some .muxw7 ∧
  decodeTableWord 16 0xE000 = some .muxoff ∧ decodeTableWord 16 0xE003 = none ∧
  decodeTableWord 16 0x80F3 = some .trigT ∧ decodeTableWord 16 0x80F5 = some .trigRh ∧
  decodeTableWord 16 0x80E3 = some .trigTHold ∧ decodeTableWord 16 0x80FE = none ∧
  decodeTableWord 32 0x81683A7C = some .poll ∧
  decodeTableWord 24 0x683A7C = some (.crcCheck 0x68 0x3A 0x7C) ∧
  decodeTableWord 8 0b00111 = some .sTPolling ∧ decodeTableWord 8 0b00110 = some (.tick 3) ∧
  decodeTableWord 8 0b10101 = some (.faultIllegalState101 1)

/-- The mask of `MUXW` is one-hot at the channel's bit (40_mux_writer.md R101). -/
def Obligations.MuxMaskIsOneHot : Prop :=
  ∀ ch : Channel, weight 8 (muxMask ch) = 1 ∧ (muxMask ch).getLsbD ch.toNat = true

/-- Decoding a bus record is total and follows 30_encoding.md R85: a one-hot byte to the multiplexer is `MUXW`, 0x00
is `MUXOFF`, a sensor write is named by its command byte, a sensor read is `POLL`, anything else is reported as
`NotABlockOperation` (R91). The model's choice, not R85's: a read record whose `sent` is not empty, which a read never
has (20_memory.md R54), is reported so too (log 28). -/
def Obligations.BusRecordDecodesByAddressAndData : Prop :=
  ∀ (c : Config) (r : BusRecord), c.wf = true →
    (r.dir = .write → r.addr = c.muxAddr → ∀ b, r.sent = [b] →
      (∀ ch : Channel, b = muxMask ch → decodeRecord c r = .ok (Instr.muxw ch)) ∧
      (b = 0 → decodeRecord c r = .ok .muxoff) ∧
      (b ≠ 0 → (∀ ch : Channel, b ≠ muxMask ch) → decodeRecord c r = .error .notABlockOperation)) ∧
    (r.dir = .write → r.addr = c.sensorAddr → ∀ b, r.sent = [b] →
      (b = c.cmdTNoHold → decodeRecord c r = .ok .trigT) ∧
      (b = c.cmdRhNoHold → decodeRecord c r = .ok .trigRh) ∧
      (b = c.cmdTHold → decodeRecord c r = .ok .trigTHold) ∧
      (b = c.cmdRhHold → decodeRecord c r = .ok .trigRhHold) ∧
      (b ≠ c.cmdTNoHold → b ≠ c.cmdRhNoHold → b ≠ c.cmdTHold → b ≠ c.cmdRhHold →
        decodeRecord c r = .error .notABlockOperation)) ∧
    (r.dir = .read → r.addr = c.sensorAddr → r.sent = [] → decodeRecord c r = .ok .poll) ∧
    (r.dir = .read → r.addr ≠ c.sensorAddr → decodeRecord c r = .error .notABlockOperation) ∧
    (r.dir = .write → r.addr ≠ c.muxAddr → r.addr ≠ c.sensorAddr →
      decodeRecord c r = .error .notABlockOperation) ∧
    (r.dir = .write → r.sent.length ≠ 1 → decodeRecord c r = .error .notABlockOperation) ∧
    (r.dir = .read → r.sent ≠ [] → decodeRecord c r = .error .notABlockOperation)

/-- The fields of a received word (30_encoding.md R77, R78): MSB times 256 plus LSB; the code is the word with its
low two bits clear, the status is those two bits, and the two together give the word back. -/
def Obligations.WordFields : Prop :=
  ∀ m l : Byte, (wordOf m l).toNat = m.toNat * 256 + l.toNat ∧
    ∀ w : Word, (codeOf w).toNat = w.toNat / 4 * 4 ∧ (statusOf w).toNat = w.toNat % 4 ∧
      (codeOf w).toNat + (statusOf w).toNat = w.toNat

/-! ### The step -/

/-- A step runs the decoded operation: the presented bytes if there are any, else the one byte of the select code
`{st, wait = 0}`; what step adds is only that a presented operation is taken away (log 6). Bytes that do not decode
are refused by name, and so is `MUXOFF` given as an input (93 U8; log 9). That presented bytes run whatever `st` and
`wait` hold is the model's choice (log 31). -/
def Obligations.StepRunsTheDecodedOperation : Prop :=
  ∀ (s : State) (bs : List Byte), s.cfg.wf = true →
    ((s.presented = [] ∧ bs = [(s.st ++ BitVec.ofBool (decide (s.wait = 0))).setWidth 8]) ∨
     (s.presented ≠ [] ∧ bs = s.presented)) →
    (∀ i, decode s.cfg bs = .ok i → i ≠ .muxoff → step s = exec i { s with presented := [] }) ∧
    (decode s.cfg bs = .ok .muxoff → step s = .refused .muxoffGiven) ∧
    (∀ e, decode s.cfg bs = .error e → step s = .refused (.undecodable e))

/-- Which step is selected: an illegal `st` faults, whatever `wait` holds; `wait > 0` ticks; otherwise the step of
`st` runs (30_encoding.md R84). -/
def Obligations.StepSelectionByStateAndWait : Prop :=
  ∀ s : State, s.cfg.wf = true → s.presented = [] →
    (10 ≤ s.st.toNat → step s = .fault .illegalState) ∧
    (s.st.toNat ≤ 9 → 0 < s.wait → step s = exec (.tick s.st) s) ∧
    (s.wait = 0 →
      (s.st = 0 → step s = exec .sIdle s) ∧ (s.st = 1 → step s = exec .sChSelected s) ∧
      (s.st = 2 → step s = exec .sTTriggered s) ∧ (s.st = 3 → step s = exec .sTPolling s) ∧
      (s.st = 4 → step s = exec .sTRead s) ∧ (s.st = 5 → step s = exec .sRhTriggered s) ∧
      (s.st = 6 → step s = exec .sRhPolling s) ∧ (s.st = 7 → step s = exec .sRhRead s) ∧
      (s.st = 8 → step s = exec .sDone s) ∧ (s.st = 9 → step s = exec .sFailed s))

/-- A configuration is refused exactly when it fails one of the checks of 00_scope.md R8. -/
def Obligations.IllFormedConfigurationRefused : Prop :=
  ∀ s : State,
    step s = .refused .illFormedConfiguration ↔
      (s.cfg.muxAddr = s.cfg.sensorAddr ∨ (∃ n ∈ s.cfg.channels, 7 < n) ∨ s.cfg.channels = [] ∨
       s.cfg.pollMaxT < 1 ∨ s.cfg.pollMaxRh < 1 ∨
       s.cfg.cmdTNoHold = s.cfg.cmdRhNoHold ∨ s.cfg.cmdTNoHold = s.cfg.cmdTHold ∨
       s.cfg.cmdTNoHold = s.cfg.cmdRhHold ∨ s.cfg.cmdRhNoHold = s.cfg.cmdTHold ∨
       s.cfg.cmdRhNoHold = s.cfg.cmdRhHold ∨ s.cfg.cmdTHold = s.cfg.cmdRhHold)

/-- The two hold-master triggers are refused in every state: the spec gives them no semantics
(41_sensor_protocol.md R122). -/
def Obligations.HoldMasterTriggersRefused : Prop :=
  ∀ s : State, exec .trigTHold s = .refused .holdMasterTrigger ∧
    exec .trigRhHold s = .refused .holdMasterTrigger

/-- Both rows of `FAULT_ILLEGAL_STATE` fault with `IllegalState` in every state (10_state.md R21). -/
def Obligations.IllegalStateRowsFault : Prop :=
  ∀ (s : State) (x : BitVec 2) (y : BitVec 3),
    exec (.faultIllegalState101 x) s = .fault .illegalState ∧
    exec (.faultIllegalState11 y) s = .fault .illegalState

/-- An opcode-table row placed by `withFetchWord` is what the very next step runs (the model's own input, log 6), but for
`MUXOFF`, which the step function refuses as an input (93 U8; log 9). Placing puts the table's addresses and commands
into the configuration and leaves the rest of it, the block's other registers, `MUXREG`, the histories and the
environment as they are; `st` and `wait` are set only by a step-select row. -/
def Obligations.PlacedRowRunsNext : Prop :=
  ∀ (s : State) (nbits w : Nat) (i : Instr), s.cfg.wf = true → decodeTableWord nbits w = some i →
    (i ≠ .muxoff → step (s.withFetchWord nbits w) = exec i { s.withFetchWord nbits w with presented := [] }) ∧
    (i = .muxoff → step (s.withFetchWord nbits w) = .refused .muxoffGiven) ∧
    { s.withFetchWord nbits w with cfg := s.cfg, st := s.st, wait := s.wait, presented := s.presented } = s ∧
    (s.withFetchWord nbits w).cfg = s.cfg.withTableDevices ∧
    ((tableBytes nbits w).length ≠ 1 →
      (s.withFetchWord nbits w).st = s.st ∧ (s.withFetchWord nbits w).wait = s.wait)

/-! ### Results of the state-machine steps -/

/-- `TICK` counts `wait` down by one and changes nothing else (44_acquisition.md R191); with nothing to count it
changes nothing at all (60_exceptions.md R243; log 11). -/
def Obligations.TickCountsDown : Prop :=
  ∀ (s : State) (st : BitVec 4),
    (∀ n, s.wait = n + 1 → exec (.tick st) s = .next { s with wait := n }) ∧
    (s.wait = 0 → exec (.tick st) s = .next s)

/-- `S_IDLE` (R192): the channel of `idx` is loaded, `CYCLE_START` is emitted, the one-hot mask is written; an
acknowledged write settles, a refused one is `NoAck` in `SELECT`, and then the next step reports it with no sensor
transaction. -/
def Obligations.IdleStepSelectsTheChannel : Prop :=
  ∀ (s : State) (n : Nat) (ch : Channel), s.cfg.channels[s.idx]? = some n → ch = BitVec.ofNat 3 n →
    (muxAccepts s → exec .sIdle s = .next
      { afterWrite s s.cfg.muxAddr (muxMask ch) .ack with
        ch := ch, sinkHist := s.sinkHist ++ [.cycleStart ch], muxreg := muxMask ch,
        wait := s.cfg.settle, st := 1 }) ∧
    (¬ muxAccepts s → exec .sIdle s = .next
      (afterFail
        { afterWrite s s.cfg.muxAddr (muxMask ch) .nack with
          ch := ch, sinkHist := s.sinkHist ++ [.cycleStart ch], muxreg := s.answer.mux } 1 0)) ∧
    (¬ muxAccepts s → s.cfg.wf = true → s.presented = [] → ∀ t, exec .sIdle s = .next t →
      ∃ u, step t = .next u ∧ u.busHist = t.busHist ∧ u.sinkHist = t.sinkHist ++ [.fail ch 1 0] ∧ u.st = 0)

/-- `S_CH_SELECTED` (R193): the temperature trigger; a refusal is `NoAck` in `TRIG_T`. -/
def Obligations.ChSelectedStepTriggersTemperature : Prop :=
  ∀ s : State, s.cfg.muxAddr ≠ s.cfg.sensorAddr →
    (sensorAccepts s → exec .sChSelected s = .next
      { afterWrite s s.cfg.sensorAddr s.cfg.cmdTNoHold .ack with st := 2 }) ∧
    (¬ sensorAccepts s → exec .sChSelected s = .next
      (afterFail (afterWrite s s.cfg.sensorAddr s.cfg.cmdTNoHold .nack) 1 1))

/-- `S_T_TRIGGERED` and `S_RH_TRIGGERED` (R194, R197). -/
def Obligations.TriggeredStepsStartPolling : Prop :=
  ∀ s : State,
    exec .sTTriggered s = .next { s with attempts := 0, wait := s.cfg.pollInterval, st := 3 } ∧
    exec .sRhTriggered s = .next { s with attempts := 0, wait := s.cfg.pollInterval, st := 6 }

/-- `S_T_POLLING` (R195): an acknowledged poll captures the three bytes; a refused one counts, and on the last
permitted attempt times out; `attempts` never exceeds the budget. -/
def Obligations.TPollingStepResults : Prop :=
  ∀ s : State, s.cfg.muxAddr ≠ s.cfg.sensorAddr →
    (sensorAnswers s → exec .sTPolling s = .next
      { afterRead s .ack [s.answer.m, s.answer.l, s.answer.c] with
        msb := s.answer.m, lsb := s.answer.l, chk := s.answer.c, attempts := s.attempts + 1, st := 4 }) ∧
    (¬ sensorAnswers s → s.attempts + 1 = s.cfg.pollMaxT → exec .sTPolling s = .next
      (afterFail { afterRead s .nack [] with attempts := s.attempts + 1 } 2 2)) ∧
    (¬ sensorAnswers s → s.attempts + 1 ≠ s.cfg.pollMaxT → exec .sTPolling s = .next
      { afterRead s .nack [] with attempts := s.attempts + 1, wait := s.cfg.pollInterval }) ∧
    (s.attempts < s.cfg.pollMaxT → ∀ t, exec .sTPolling s = .next t → t.attempts ≤ s.cfg.pollMaxT)

/-- `S_RH_POLLING` (R198). -/
def Obligations.RhPollingStepResults : Prop :=
  ∀ s : State, s.cfg.muxAddr ≠ s.cfg.sensorAddr →
    (sensorAnswers s → exec .sRhPolling s = .next
      { afterRead s .ack [s.answer.m, s.answer.l, s.answer.c] with
        msb := s.answer.m, lsb := s.answer.l, chk := s.answer.c, attempts := s.attempts + 1, st := 7 }) ∧
    (¬ sensorAnswers s → s.attempts + 1 = s.cfg.pollMaxRh → exec .sRhPolling s = .next
      (afterFail { afterRead s .nack [] with attempts := s.attempts + 1 } 2 5)) ∧
    (¬ sensorAnswers s → s.attempts + 1 ≠ s.cfg.pollMaxRh → exec .sRhPolling s = .next
      { afterRead s .nack [] with attempts := s.attempts + 1, wait := s.cfg.pollInterval }) ∧
    (s.attempts < s.cfg.pollMaxRh → ∀ t, exec .sRhPolling s = .next t → t.attempts ≤ s.cfg.pollMaxRh)

/-- `S_T_READ` (R196): the checksum first; a mismatch issues no transaction; a valid word is stored and humidity is
triggered. -/
def Obligations.TReadStepResults : Prop :=
  ∀ s : State, s.cfg.muxAddr ≠ s.cfg.sensorAddr →
    (crc8 [s.msb, s.lsb] ≠ s.chk → exec .sTRead s = .next (afterFail s 3 3)) ∧
    (crc8 [s.msb, s.lsb] = s.chk → sensorAccepts s → exec .sTRead s = .next
      { afterWrite s s.cfg.sensorAddr s.cfg.cmdRhNoHold .ack with tWord := wordOf s.msb s.lsb, st := 5 }) ∧
    (crc8 [s.msb, s.lsb] = s.chk → ¬ sensorAccepts s → exec .sTRead s = .next
      (afterFail
        { afterWrite s s.cfg.sensorAddr s.cfg.cmdRhNoHold .nack with tWord := wordOf s.msb s.lsb } 1 4))

/-- `S_RH_READ` (R199). -/
def Obligations.RhReadStepResults : Prop :=
  ∀ s : State,
    (crc8 [s.msb, s.lsb] ≠ s.chk → exec .sRhRead s = .next (afterFail s 3 6)) ∧
    (crc8 [s.msb, s.lsb] = s.chk →
      exec .sRhRead s = .next { s with rhWord := wordOf s.msb s.lsb, st := 8 })

/-- `S_DONE` (R200). -/
def Obligations.DoneStepEmitsReading : Prop :=
  ∀ s : State, exec .sDone s = .next
    { s with
      sinkHist := s.sinkHist ++ [.reading s.ch s.tWord s.rhWord]
      idx := (s.idx + 1) % s.cfg.channels.length, wait := s.cfg.channelDelay, st := 0 }

/-- `S_FAILED` (R201). -/
def Obligations.FailedStepEmitsFail : Prop :=
  ∀ s : State, exec .sFailed s = .next
    { s with
      sinkHist := s.sinkHist ++ [.fail s.ch s.errCode s.errPhase]
      idx := (s.idx + 1) % s.cfg.channels.length, wait := s.cfg.channelDelay, st := 0 }

/-! ### Results of the bus operations, presented on their own -/

/-- `MUXW 0` to `MUXW 7` (40_mux_writer.md R100, R102, R103): an acknowledged write leaves the one-hot mask in
`MUXREG`; a refused one leaves a draw there and is `NoAck` in `SELECT` (R231; that the row itself takes it is log 7). -/
def Obligations.MuxwWritesItsMask : Prop :=
  ∀ (s : State) (i : Instr) (b : Byte),
    (i, b) ∈ [(Instr.muxw0, (0x01 : Byte)), (.muxw1, 0x02), (.muxw2, 0x04), (.muxw3, 0x08),
      (.muxw4, 0x10), (.muxw5, 0x20), (.muxw6, 0x40), (.muxw7, 0x80)] →
    (muxAccepts s → exec i s = .next { afterWrite s s.cfg.muxAddr b .ack with muxreg := b }) ∧
    (¬ muxAccepts s → exec i s = .next
      (afterFail { afterWrite s s.cfg.muxAddr b .nack with muxreg := s.answer.mux } 1 0))

/-- The meaning of `MUXOFF` (R106): an acknowledged write leaves 0x00 in `MUXREG`, a refused one a draw; no exception.
(`step` refuses it as an input, 93 U8; log 9.) -/
def Obligations.MuxoffDisconnectsAll : Prop :=
  ∀ s : State,
    (muxAccepts s → exec .muxoff s = .next { afterWrite s s.cfg.muxAddr 0 .ack with muxreg := 0 }) ∧
    (¬ muxAccepts s → exec .muxoff s = .next
      { afterWrite s s.cfg.muxAddr 0 .nack with muxreg := s.answer.mux })

/-- `TRIG_T` and `TRIG_RH` run on their own (41_sensor_protocol.md R120, R121): acknowledged, one record and no register;
refused, `NoAck` in its trigger phase (60_exceptions.md R231). R120 and R121 return the response and name the error under
"Exceptions"; that the row itself takes it, and so writes `err_code`, `err_phase`, `wait` and `st`, is the model's reading
(log 7). -/
def Obligations.TriggersSendTheirCommand : Prop :=
  ∀ s : State, s.cfg.muxAddr ≠ s.cfg.sensorAddr →
    (sensorAccepts s →
      exec .trigT s = .next (afterWrite s s.cfg.sensorAddr s.cfg.cmdTNoHold .ack) ∧
      exec .trigRh s = .next (afterWrite s s.cfg.sensorAddr s.cfg.cmdRhNoHold .ack)) ∧
    (¬ sensorAccepts s →
      exec .trigT s = .next (afterFail (afterWrite s s.cfg.sensorAddr s.cfg.cmdTNoHold .nack) 1 1) ∧
      exec .trigRh s = .next (afterFail (afterWrite s s.cfg.sensorAddr s.cfg.cmdRhNoHold .nack) 1 4))

/-- `POLL` (R125): an acknowledged poll captures the three bytes in the order received; a refused one changes no
register and raises nothing. -/
def Obligations.PollCapturesTheResponse : Prop :=
  ∀ s : State, s.cfg.muxAddr ≠ s.cfg.sensorAddr →
    (sensorAnswers s → exec .poll s = .next
      { afterRead s .ack [s.answer.m, s.answer.l, s.answer.c] with
        msb := s.answer.m, lsb := s.answer.l, chk := s.answer.c }) ∧
    (¬ sensorAnswers s → exec .poll s = .next (afterRead s .nack []))

/-- `CRC_CHECK` run on its own (42_crc8.md R163): a valid frame changes nothing; an invalid one is `ChecksumMismatch` in
the read phase of the measurement in progress. That the row itself takes this failure, and so writes `err_code`,
`err_phase`, `wait` and `st`, is the model's reading of R163's "Exceptions" (log 8): the validator of R168 writes nothing,
and in the block's own runs the read step takes the failure. Outside the measuring states the spec leaves the kind
undefined (10_state.md R23): one of the two phases is recorded, and the statement does not say which (log 8). -/
def Obligations.CrcCheckResults : Prop :=
  ∀ (s : State) (m l k : Byte),
    (crc8 [m, l] = k → exec (.crcCheck m l k) s = .next s) ∧
    (crc8 [m, l] ≠ k →
      (2 ≤ s.st.toNat → s.st.toNat ≤ 4 → exec (.crcCheck m l k) s = .next (afterFail s 3 3)) ∧
      (5 ≤ s.st.toNat → s.st.toNat ≤ 7 → exec (.crcCheck m l k) s = .next (afterFail s 3 6)) ∧
      (exec (.crcCheck m l k) s = .next (afterFail s 3 3) ∨
       exec (.crcCheck m l k) s = .next (afterFail s 3 6)))

/-- Repeated `MUXW k` (R105): if the last of n >= 1 consecutive writes is acknowledged, `MUXREG` is `1 << k` whatever
the earlier responses were; each write is still a transaction of its own (20_memory.md R69). -/
def Obligations.RepeatedMuxwIsIdempotent : Prop :=
  ∀ (k : Channel) (n : Nat) (s t : State) (r : BusRecord),
    repeatExec (Instr.muxw k) (n + 1) s = .next t →
    t.busHist.getLast? = some r → r.resp = .ack →
    t.muxreg = muxMask k ∧ t.busHist.length = s.busHist.length + (n + 1)

/-! ### Bus primitives -/

/-- Which devices a transaction reaches (10_state.md R31, 20_memory.md R51). Segment `i` is connected exactly when bit `i`
of `MUXREG` is set; a sensor transaction reaches the sensors of the connected segments and no others, so with channel
`k`'s mask it reaches the one sensor on `k`, and a record of the sensor is attributed to `k` (40_mux_writer.md R104)
exactly when that sensor alone was reached. With no segment connected it reaches no device and is refused, whatever the
environment answers; a multiplexer transaction reaches the multiplexer and is answered as the environment chooses,
whatever `MUXREG` holds. -/
def Obligations.UnreachedSensorIsRefused : Prop :=
  ∀ (s : State) (k : Kind) (b : Byte), s.cfg.muxAddr ≠ s.cfg.sensorAddr →
    (∀ i : Channel, (segmentConnected s.muxreg i = true ↔ s.muxreg.toNat / 2 ^ i.toNat % 2 = 1) ∧
      (Device.sensor i ∈ devicesReached s.cfg s.muxreg s.cfg.sensorAddr ↔ segmentConnected s.muxreg i = true)) ∧
    (∀ c : Channel, s.muxreg = muxMask c → devicesReached s.cfg s.muxreg s.cfg.sensorAddr = [.sensor c]) ∧
    (∀ (r : BusRecord) (c : Channel), r.addr = s.cfg.sensorAddr →
      (attributedTo s.cfg c r ↔ recordDevices s.cfg r = [.sensor c])) ∧
    (s.muxreg = 0 → devicesReached s.cfg s.muxreg s.cfg.sensorAddr = [] ∧
      s.trigResp k = .nack ∧ s.pollResp = .nack) ∧
    devicesReached s.cfg s.muxreg s.cfg.muxAddr = [.multiplexer] ∧
    (s.muxResp b = .ack ↔ muxAccepts s)

/-- The expansion of a write (R53): it is acknowledged exactly when every byte is; then every byte was sent; otherwise
nothing follows the first refused byte. START opens it and STOP ends it. The framing and the stop on the first refused
byte are the spec's, from general knowledge (log 19). -/
def Obligations.WriteFrameStopsAtTheFirstRefusal : Prop :=
  ∀ (a : Addr) (bs : List Byte) (acks : List Bool), acks.length = bs.length + 1 →
    ((writeFrame a bs acks).resp = .ack ↔ ∀ x ∈ acks, x = true) ∧
    ((∀ x ∈ acks, x = true) → (writeFrame a bs acks).prims =
      .start :: (addrByte a .write :: bs).map (fun b => .writeByte b .ack) ++ [.stop]) ∧
    (∀ n b, n < acks.length → (∀ x ∈ acks.take n, x = true) → acks[n]? = some false →
      (addrByte a .write :: bs)[n]? = some b →
      (writeFrame a bs acks).prims =
        .start :: ((addrByte a .write :: bs).take n).map (fun b => .writeByte b .ack) ++
          [.writeByte b .nack, .stop])

/-- The expansion of a read (R54): only the address byte can be refused; the master acknowledges every data byte but
the last. The acknowledgement pattern is the spec's, from general knowledge (log 19). -/
def Obligations.ReadFrameNacksTheLastByte : Prop :=
  ∀ (a : Addr) (bs : List Byte) (b : Byte),
    readFrame a (bs ++ [b]) true =
      ⟨.start :: .writeByte (addrByte a .read) .ack ::
        bs.map (fun x => .readByte x .ack) ++ [.readByte b .nack, .stop], .ack⟩ ∧
    readFrame a (bs ++ [b]) false = ⟨[.start, .writeByte (addrByte a .read) .nack, .stop], .nack⟩

/-! ### Failures -/

/-- `raise Fail(code, phase)` (60_exceptions.md R236) writes the code and the phase, clears `wait` and goes to
`FAILED`; it leaves every other register, the histories and `MUXREG` as they are. -/
def Obligations.RaiseFailEntersFailed : Prop :=
  ∀ (s : State) (c : ErrCode) (p : Phase),
    (s.raiseFail c p).errCode = c.bits ∧ (s.raiseFail c p).errPhase = p.bits ∧
    (s.raiseFail c p).wait = 0 ∧ (s.raiseFail c p).st = 9 ∧
    s.raiseFail c p = { s with
      errCode := (s.raiseFail c p).errCode, errPhase := (s.raiseFail c p).errPhase, wait := 0, st := 9 }

/-- The error registers change only by a failure, with one of the seven legal pairs (R238, 30_encoding.md R88). -/
def Obligations.ErrorsAreLegalPairs : Prop :=
  ∀ (i : Instr) (s t : State), exec i s = .next t →
    (t.errCode = s.errCode ∧ t.errPhase = s.errPhase) ∨
    (t.st = 9 ∧ t.wait = 0 ∧
      (t.errCode.toNat, t.errPhase.toNat) ∈ [(1, 0), (1, 1), (1, 4), (2, 2), (2, 5), (3, 3), (3, 6)])

/-! ### The validator -/

/-- The CRC in its residue form (42_crc8.md R164). Like every statement about valid frames it rests on the final
exclusive-or 0x00, the spec's own decision (log 20). -/
def Obligations.CrcResidueForm : Prop :=
  ∀ m l k : Byte, crc8 [m, l] = k ↔ crc8 [m, l, k] = 0x00

/-- The CRC is linear; the valid frames are closed under exclusive-or, and an error pattern is detected or not
whatever the frame (R165). It rests on the final exclusive-or 0x00 (log 20). -/
def Obligations.CrcIsLinear : Prop :=
  (∀ a₁ a₂ b₁ b₂ : Byte, crc8 [a₁ ^^^ b₁, a₂ ^^^ b₂] = crc8 [a₁, a₂] ^^^ crc8 [b₁, b₂]) ∧
  (∀ f e : BitVec 24, frameValid f = true → (frameValid (f ^^^ e) = true ↔ frameValid e = true))

/-- What the validator detects (R166): every error of one or two bits, of an odd number of bits, or in a burst of at
most eight; the all-zero frame passes, the all-ones frame fails, and each pair of data bytes has one checksum. It
rests on the final exclusive-or 0x00 (log 20). -/
def Obligations.CrcDetectsErrors : Prop :=
  crcValid 0x00 0x00 0x00 = true ∧ crc8 [0xFF, 0xFF] = 0x2D ∧ crcValid 0xFF 0xFF 0xFF = false ∧
  (∀ m l : Byte, ∃! k : Byte, crcValid m l k = true) ∧
  ∀ f e : BitVec 24, frameValid f = true → e ≠ 0 →
    (weight 24 e ≤ 2 ∨ weight 24 e % 2 = 1 ∨ ∃ (b : BitVec 8) (n : Nat), n ≤ 16 ∧ e = b.setWidth 24 <<< n) →
    frameValid (f ^^^ e) = false

/-- The table form (R161, R167): one step per byte through `T[c ^ b]`, with the table as the spec lists it. It
rests on the final exclusive-or 0x00 (log 20). -/
def Obligations.CrcTableForm : Prop :=
  (∀ i : Byte, (crcTable.flatten)[i.toNat]? = some (crc8 [i])) ∧
  ∀ (bs : List Byte) (b : Byte), crc8 (bs ++ [b]) = crc8 [crc8 bs ^^^ b]

/-! ### The consumer's side -/

/-- `humidityPct` is clamped, with the thresholds of 43_conversion.md R185 over masked codes; temperature has none.
Values are exact rationals (log 21). -/
def Obligations.HumidityClampThresholds : Prop :=
  (∀ code : Word, 0 ≤ humidityPct code ∧ humidityPct code ≤ 100) ∧
  (∀ code : Word, code &&& 3 = 0 →
    (code.toNat ≤ 3144 ↔ rhRaw code < 0) ∧ (code.toNat ≤ 3144 ↔ humidityPct code = 0) ∧
    (55576 ≤ code.toNat ↔ 100 < rhRaw code) ∧ (55576 ≤ code.toNat ↔ humidityPct code = 100)) ∧
  humidityPct 3148 = 71 / 16384 ∧ humidityPct 55572 = 1638321 / 16384 ∧
  (∀ a b : Word, a.toNat < b.toNat → tempC a < tempC b)

/-- `tempC` (R180) over masked codes runs from -46.85 to 52780759/409600 and rises by one step of R186 per code. -/
def Obligations.TemperatureRangeAndResolution : Prop :=
  (∀ w : Word, -4685 / 100 ≤ tempC (codeOf w) ∧ tempC (codeOf w) ≤ 52780759 / 409600) ∧
  tempC 0 = -4685 / 100 ∧ tempC 0xFFFC = 52780759 / 409600 ∧
  (∀ c : Word, c.toNat + 4 < 65536 → tempC (c + 4) - tempC c = 17572 / 100 * 4 / 65536)

/-- A reading is formed only from a `READING` event, from the masked codes of its two words (R184); the Sink shows it,
clears on `CYCLE_START`, and updates nothing on `FAIL` (44_acquisition.md R215). That it has no indicator on `FAIL`, and
what it shows before its first event, are the model's choices (log 29, log 30). -/
def Obligations.SinkShowsReadingsOnly : Prop :=
  (∀ (e : Event) (p : PhysicalReading), physicalReading e = some p ↔
    ∃ ch t rh, e = .reading ch t rh ∧ p = ⟨tempC (t &&& 0xFFFC), humidityPct (rh &&& 0xFFFC), ch⟩) ∧
  ∀ (es : List Event) (e : Event),
    (∀ ch, e = .cycleStart ch →
      (sinkOf (es ++ [e])).shown = none ∧ (sinkOf (es ++ [e])).known = (sinkOf es).known) ∧
    (∀ ch t rh, e = .reading ch t rh →
      (sinkOf (es ++ [e])).shown = physicalReading e ∧
      (sinkOf (es ++ [e])).known.find? (·.channel == ch) = physicalReading e) ∧
    (∀ ch c p, e = .fail ch c p → sinkOf (es ++ [e]) = sinkOf es)

/-! ### Reset -/

/-- What reset leaves (70_reset_and_hazards.md R260): `IDLE`, index 0, no wait, empty histories, nothing issued or
emitted; a reset of a running block keeps `MUXREG`, the configuration and the environment (R263). -/
def Obligations.ResetLeavesIdle : Prop :=
  (∀ (c : Config) (mux : Byte) (s : State), s = State.resetWith c mux →
    s.st = 0 ∧ s.idx = 0 ∧ s.wait = 0 ∧ s.busHist = [] ∧ s.sinkHist = [] ∧ s.cfg = c ∧ s.muxreg = mux) ∧
  (∀ s : State, s.warmReset.st = 0 ∧ s.warmReset.idx = 0 ∧ s.warmReset.wait = 0 ∧
    s.warmReset.busHist = [] ∧ s.warmReset.sinkHist = [] ∧ s.warmReset.muxreg = s.muxreg ∧
    s.warmReset.cfg = s.cfg ∧ s.warmReset.answers = s.answers ∧ s.warmReset.nAnswers = s.nAnswers)

/-- The first step after reset (R261): `S_IDLE` with index 0, so `CYCLE_START` of the first channel and then its
`MUXW`; no tick comes before it. That the block steps with nothing placed is log 6. -/
def Obligations.FirstStepAfterResetSelects : Prop :=
  ∀ (c : Config) (mux : Byte) (n : Nat), c.wf = true → c.channels[0]? = some n →
    step (State.resetWith c mux) = exec .sIdle (State.resetWith c mux) ∧
    ∃ t r, step (State.resetWith c mux) = .next t ∧ t.sinkHist = [.cycleStart (BitVec.ofNat 3 n)] ∧
      t.busHist = [⟨.write, c.muxAddr, [muxMask (BitVec.ofNat 3 n)], r, [], mux⟩]

/-! ### Rules of the whole machine -/

/-- The invariant holds after reset of every configuration that passes its check, and after the model's own reset. -/
def Obligations.ResetMeetsTheInvariant : Prop :=
  (∀ (c : Config) (mux : Byte), c.wf = true → BlockInv (State.resetWith c mux)) ∧ BlockInv State.reset

/-- Every step keeps the invariant: a legal `st`, an index inside the list, counters within the bounds of 00_scope.md
R9, the budget unspent while polling, the channel of the index, a one-hot `MUXREG` while a channel is in use, and a
legal error pair in `FAILED` (10_state.md R20 to R22, R37; 30_encoding.md R88; 44_acquisition.md R210). -/
def Obligations.StepKeepsTheInvariant : Prop :=
  ∀ s t : State, BlockInv s → step s = .next t → BlockInv t

/-- The block never halts: in every state that meets the invariant a step answers a next state (44_acquisition.md
R206). -/
def Obligations.BlockNeverHalts : Prop :=
  ∀ s : State, BlockInv s → ∃ t, step s = .next t

/-- Every change of `st` is a row of the transition table, with `wait` as the row says; no other transition exists
(R202). -/
def Obligations.TransitionsAreTheTable : Prop :=
  ∀ s t : State, s.cfg.wf = true → s.presented = [] → step s = .next t →
    (0 < s.wait → t.st = s.st ∧ t.wait = s.wait - 1) ∧
    (s.wait = 0 → (s.st, t.st, t.wait) ∈ transitionTable s.cfg)

/-- One step issues at most one transaction and emits at most one event, and the histories only grow (00_scope.md
R13, 20_memory.md R65). -/
def Obligations.StepsIssueAtMostOne : Prop :=
  ∀ (i : Instr) (s t : State), exec i s = .next t →
    ∃ rs es, t.busHist = s.busHist ++ rs ∧ rs.length ≤ 1 ∧ t.sinkHist = s.sinkHist ++ es ∧ es.length ≤ 1

/-- Who writes what: each register of 10_state.md R20 is written only by the operations that rule names for it and, where
run on their own, by the bus operations and the validator those steps use (log 6, 7, 8); a failure is the only writer of
`err_code` and `err_phase` and always goes to `FAILED` with `wait` 0; `MUXREG` changes only by a multiplexer write; the
configuration by nothing (R33). -/
def Obligations.RegistersAreWrittenByTheirSteps : Prop :=
  ∀ (i : Instr) (s t : State), exec i s = .next t →
    t.cfg = s.cfg ∧ t.presented = s.presented ∧
    (t.st ≠ s.st → i = .sIdle ∨ i = .sChSelected ∨ i = .sTTriggered ∨ i = .sTPolling ∨ i = .sTRead ∨
      i = .sRhTriggered ∨ i = .sRhPolling ∨ i = .sRhRead ∨ i = .sDone ∨ i = .sFailed ∨
      (t.st = 9 ∧ ((∃ ch, i = Instr.muxw ch) ∨ i = .trigT ∨ i = .trigRh ∨ ∃ m l k, i = .crcCheck m l k))) ∧
    (t.wait ≠ s.wait → (∃ x, i = .tick x) ∨ i = .sIdle ∨ i = .sTTriggered ∨ i = .sTPolling ∨ i = .sRhTriggered ∨
      i = .sRhPolling ∨ i = .sDone ∨ i = .sFailed ∨ (t.st = 9 ∧ t.wait = 0)) ∧
    ((t.errCode ≠ s.errCode ∨ t.errPhase ≠ s.errPhase) → t.st = 9 ∧ t.wait = 0 ∧
      (i = .sIdle ∨ i = .sChSelected ∨ i = .sTPolling ∨ i = .sTRead ∨ i = .sRhPolling ∨ i = .sRhRead ∨
       (∃ ch, i = Instr.muxw ch) ∨ i = .trigT ∨ i = .trigRh ∨ ∃ m l k, i = .crcCheck m l k)) ∧
    (t.idx ≠ s.idx → i = .sDone ∨ i = .sFailed) ∧
    (t.ch ≠ s.ch → i = .sIdle) ∧
    (t.attempts ≠ s.attempts → i = .sTTriggered ∨ i = .sRhTriggered ∨ i = .sTPolling ∨ i = .sRhPolling) ∧
    ((t.msb ≠ s.msb ∨ t.lsb ≠ s.lsb ∨ t.chk ≠ s.chk) → i = .sTPolling ∨ i = .sRhPolling ∨ i = .poll) ∧
    (t.tWord ≠ s.tWord → i = .sTRead) ∧
    (t.rhWord ≠ s.rhWord → i = .sRhRead) ∧
    (t.muxreg ≠ s.muxreg → i = .sIdle ∨ i = .muxoff ∨ ∃ ch, i = Instr.muxw ch)

/-- A word is stored only after its checksum passed, and handed on only by `DONE` in a `READING` event (R133): every
`READING` a step appends, be it equal to an earlier one or not, is that of `DONE`. -/
def Obligations.OnlyVerifiedWordsAreStored : Prop :=
  ∀ (i : Instr) (s t : State), exec i s = .next t →
    (t.tWord ≠ s.tWord → i = .sTRead ∧ crcValid s.msb s.lsb s.chk = true ∧ t.tWord = wordOf s.msb s.lsb) ∧
    (t.rhWord ≠ s.rhWord → i = .sRhRead ∧ crcValid s.msb s.lsb s.chk = true ∧ t.rhWord = wordOf s.msb s.lsb) ∧
    (∀ ch w w', Event.reading ch w w' ∈ t.sinkHist.drop s.sinkHist.length →
      i = .sDone ∧ ch = s.ch ∧ w = s.tWord ∧ w' = s.rhWord)

/-- Channel exclusivity (44_acquisition.md R210): every sensor transaction a step issues is issued while `MUXREG`
holds exactly the bit of the iteration's channel. -/
def Obligations.SensorTrafficIsOnTheSelectedChannel : Prop :=
  ∀ (s t : State) (r : BusRecord), BlockInv s → step s = .next t → r ∈ t.busHist.drop s.busHist.length →
    r.addr = s.cfg.sensorAddr → r.muxAtIssue = muxMask s.ch ∧ s.ch = channelAt s.cfg s.idx ∧ t.ch = s.ch

/-- The whole bus history stays safe: every record is an operation the block issues, every sensor record is attributed
to one configured channel (40_mux_writer.md R104; 30_encoding.md R80, R81, R91). -/
def Obligations.StepKeepsTheBusHistorySafe : Prop :=
  ∀ s t : State, BlockInv s → busHistorySafe s.cfg s.busHist → step s = .next t → busHistorySafe t.cfg t.busHist

/-- Every word ever handed to the Sink was read from its own channel with a valid checksum (41_sensor_protocol.md
R133). -/
def Obligations.StepKeepsReadingsVerified : Prop :=
  ∀ s t : State, BlockInv s → Verified s → step s = .next t → Verified t

/-- No step relies on a register where it is not valid, nor on `MUXREG` before it is written: two states that agree
wherever registers are valid step to two states that do (10_state.md R36, R39; 70_reset_and_hazards.md R263). So the
model's reset values for unspecified registers (log 3) and the power-up value of `MUXREG` reach no signal and no
event: any state at `IDLE` with index 0 agrees with the reset state. -/
def Obligations.UnspecifiedRegistersAreNeverReliedOn : Prop :=
  (∀ s t s' : State, s.cfg.wf = true → AgreeWhereValid s t → step s = .next s' →
    ∃ t', step t = .next t' ∧ AgreeWhereValid s' t') ∧
  (∀ (c : Config) (mux : Byte) (t : State), t.cfg = c → t.st = 0 → t.idx = 0 → t.wait = 0 →
    t.busHist = [] → t.sinkHist = [] → t.answers = [] → t.nAnswers = 0 → t.presented = [] →
    AgreeWhereValid (State.resetWith c mux) t)

/-! ### Runs -/

/-- A delay is a run of exactly `wait` ticks, which changes nothing but `wait` (44_acquisition.md R191, R207, R208). -/
def Obligations.DelayIsARunOfTicks : Prop :=
  ∀ s : State, s.cfg.wf = true → s.presented = [] → s.st.toNat ≤ 9 →
    run s.wait s = .next { s with wait := 0 }

/-- The state machine runs exactly the source's algorithm: from the start of an iteration it reaches, within the bound
of R212 less the inter-channel delay, the state the big-step contract `acquire` gives (41_sensor_protocol.md R134,
44_acquisition.md R202). -/
def Obligations.StateMachineRefinesTheContract : Prop :=
  ∀ s : State, s.cfg.wf = true → s.presented = [] → s.st = 0 → s.wait = 0 →
    ∃ n, 0 < n ∧ n + s.cfg.channelDelay ≤ iterationBound s.cfg ∧ run n s = .next (acquire s)

/-- Every iteration ends within the bound of R212 and emits exactly one `CYCLE_START` followed by exactly one of
`READING` or `FAIL`, for the channel of its index, and the next channel follows (R203, R205). -/
def Obligations.EveryIterationEndsAndReports : Prop :=
  ∀ (s : State) (n : Nat), s.cfg.wf = true → s.presented = [] → s.st = 0 → s.wait = 0 →
    s.cfg.channels[s.idx]? = some n →
    ∃ k t e, 0 < k ∧ k ≤ iterationBound s.cfg ∧ run k s = .next t ∧ t.st = 0 ∧ t.wait = 0 ∧
      t.idx = (s.idx + 1) % s.cfg.channels.length ∧ t.ch = BitVec.ofNat 3 n ∧
      t.sinkHist = s.sinkHist ++ [.cycleStart (BitVec.ofNat 3 n), e] ∧
      (e = .reading (BitVec.ofNat 3 n) t.tWord t.rhWord ∨
       ∃ c p, legalPair c p = true ∧ e = .fail (BitVec.ofNat 3 n) c.bits p.bits)

/-- Under a well-behaved multiplexer and sensor (R132) an iteration succeeds: the two histories are those of R211 and
the number of steps is that of R212, whatever the words, the numbers of refused polls and the delays. -/
def Obligations.WellBehavedIterationYieldsAReading : Prop :=
  ∀ (s : State) (n : Nat) (ch : Channel) (wT wRh : Word) (kT kRh : Nat) (rest : List Answer),
    s.cfg.wf = true → s.presented = [] → s.st = 0 → s.wait = 0 →
    s.cfg.channels[s.idx]? = some n → ch = BitVec.ofNat 3 n →
    WellBehaved s.cfg wT wRh kT kRh rest s.answers →
    ∃ t, run ((7 + kT + kRh) + (s.cfg.settle + (kT + kRh) * s.cfg.pollInterval + s.cfg.channelDelay)) s =
        .next t ∧
      t.st = 0 ∧ t.wait = 0 ∧ t.idx = (s.idx + 1) % s.cfg.channels.length ∧ t.answers = rest ∧
      t.sinkHist = s.sinkHist ++ [.cycleStart ch, .reading ch wT wRh] ∧
      t.busHist = s.busHist ++
        (selectRecord s.cfg ch s.muxreg .ack ::
          measureRecords s.cfg ch s.cfg.cmdTNoHold (kT - 1) wT ++
          measureRecords s.cfg ch s.cfg.cmdRhNoHold (kRh - 1) wRh)

/-- A silent multiplexer (60_exceptions.md R241, 44_acquisition.md R213): the iteration is one refused select and one
`FAIL`, with no sensor transaction, and after the inter-channel delay the next channel follows. -/
def Obligations.SilentMultiplexerSkipsTheChannel : Prop :=
  ∀ (s : State) (n : Nat) (ch : Channel), s.cfg.wf = true → s.presented = [] → s.st = 0 → s.wait = 0 →
    s.cfg.channels[s.idx]? = some n → ch = BitVec.ofNat 3 n → ¬ muxAccepts s →
    ∃ t, run (2 + s.cfg.channelDelay) s = .next t ∧ t.st = 0 ∧ t.wait = 0 ∧
      t.idx = (s.idx + 1) % s.cfg.channels.length ∧
      t.busHist = s.busHist ++ [selectRecord s.cfg ch s.muxreg .nack] ∧
      t.sinkHist = s.sinkHist ++ [.cycleStart ch, .fail ch 1 0]

/-- A hung sensor (41_sensor_protocol.md R128, 60_exceptions.md R232, 44_acquisition.md R213): when select and trigger are
acknowledged and every permitted temperature poll is refused, exactly the budget's number of polls is issued, no
humidity trigger follows, and the iteration reports `Timeout` in `POLL_T`. -/
def Obligations.HungSensorTimesOut : Prop :=
  ∀ (s : State) (n : Nat) (ch : Channel) (sel tr : Answer) (busy rest : List Answer),
    s.cfg.wf = true → s.presented = [] → s.st = 0 → s.wait = 0 →
    s.cfg.channels[s.idx]? = some n → ch = BitVec.ofNat 3 n →
    s.answers = sel :: tr :: busy ++ rest → Answer.accepts sel → Answer.accepts tr →
    busy.length = s.cfg.pollMaxT → (∀ a ∈ busy, a.addrAck = false) →
    ∃ t, run (4 + s.cfg.settle + s.cfg.pollMaxT * (s.cfg.pollInterval + 1) + s.cfg.channelDelay) s = .next t ∧
      t.st = 0 ∧ t.wait = 0 ∧ t.idx = (s.idx + 1) % s.cfg.channels.length ∧ t.answers = rest ∧
      t.sinkHist = s.sinkHist ++ [.cycleStart ch, .fail ch 2 2] ∧
      t.busHist = s.busHist ++
        (selectRecord s.cfg ch s.muxreg .ack ::
          ⟨.write, s.cfg.sensorAddr, [s.cfg.cmdTNoHold], .ack, [], muxMask ch⟩ ::
          List.replicate s.cfg.pollMaxT ⟨.read, s.cfg.sensorAddr, [], .nack, [], muxMask ch⟩)

/-- A stuck bus is skipped updates, not a crash (60_exceptions.md R241), and the channels are visited in the order of the
list (44_acquisition.md R203): `k` iterations on a bus that acknowledges nothing are `k` refused selects, one per
channel in turn, each with its `CYCLE_START` and its `FAIL`. -/
def Obligations.StuckBusKeepsCycling : Prop :=
  ∀ (s : State) (k : Nat), s.cfg.wf = true → s.presented = [] → s.st = 0 → s.wait = 0 →
    s.idx < s.cfg.channels.length → k ≤ s.answers.length → (∀ a ∈ s.answers.take k, a.addrAck = false) →
    ∃ t, run (k * (2 + s.cfg.channelDelay)) s = .next t ∧ t.st = 0 ∧ t.wait = 0 ∧
      t.idx = (s.idx + k) % s.cfg.channels.length ∧
      t.sinkHist = s.sinkHist ++ (List.range k).flatMap (fun j =>
        [.cycleStart (channelAt s.cfg ((s.idx + j) % s.cfg.channels.length)),
         .fail (channelAt s.cfg ((s.idx + j) % s.cfg.channels.length)) 1 0]) ∧
      (t.busHist.drop s.busHist.length).map (fun r => (r.addr, r.sent, r.resp)) =
        (List.range k).map (fun j =>
          (s.cfg.muxAddr, [muxMask (channelAt s.cfg ((s.idx + j) % s.cfg.channels.length))], .nack))
end

