-- ==== Sys2Proof/Laws/Config.lean ====
section
/-! SUPPORT. The configuration of the reset state passes its check, and a configuration given the table's addresses and
commands decodes what the table's own does. -/

namespace Sys2Proof

/-- The drawn addresses and commands pass their part of the check. -/
theorem Config.devices_wf : Config.devices.devicesWf = true := by
  unfold Config.devices
  split
  · assumption
  · rfl

/-- The check of 00_scope.md R8, by its parts. -/
theorem Config.wf_eq (c : Config) :
    c.wf = (c.devicesWf && (c.channelsInRange && !c.channels.isEmpty && positive c.pollMaxT &&
      positive c.pollMaxRh)) := by
  unfold Config.wf Config.devicesWf
  cases c.muxAddr != c.sensorAddr <;> cases c.commandsDistinct <;> simp

/-- The build of the reset state is well-formed, whatever was drawn. -/
theorem Config.build_wf : Config.build.wf = true := by
  rw [Config.wf_eq]
  exact (Bool.and_eq_true _ _).mpr ⟨Config.devices_wf, rfl⟩

/-- The table's addresses and commands keep a configuration well-formed. -/
theorem Config.withTableDevices_wf {c : Config} (h : c.wf = true) : c.withTableDevices.wf = true := by
  rw [Config.wf_eq] at h ⊢
  exact (Bool.and_eq_true _ _).mpr ⟨rfl, ((Bool.and_eq_true _ _).mp h).2⟩

/-- Decoding looks at nothing but addresses and commands. -/
theorem decode_withTableDevices (c : Config) (bs : List Byte) :
    decode c.withTableDevices bs = decode Config.table bs := rfl

end Sys2Proof
end

