-- ==== Sys2Proof/Laws/State.lean ====
section
/-! SUPPORT. One lemma per field per update of the state: what each shared operation leaves in each field. -/

namespace Sys2Proof.Machine

/-! ### `answered` -/

@[simp] theorem State.answered_cfg (s : State) : (s.answered).cfg = s.cfg := rfl
@[simp] theorem State.answered_st (s : State) : (s.answered).st = s.st := rfl
@[simp] theorem State.answered_idx (s : State) : (s.answered).idx = s.idx := rfl
@[simp] theorem State.answered_ch (s : State) : (s.answered).ch = s.ch := rfl
@[simp] theorem State.answered_wait (s : State) : (s.answered).wait = s.wait := rfl
@[simp] theorem State.answered_attempts (s : State) : (s.answered).attempts = s.attempts := rfl
@[simp] theorem State.answered_msb (s : State) : (s.answered).msb = s.msb := rfl
@[simp] theorem State.answered_lsb (s : State) : (s.answered).lsb = s.lsb := rfl
@[simp] theorem State.answered_chk (s : State) : (s.answered).chk = s.chk := rfl
@[simp] theorem State.answered_tWord (s : State) : (s.answered).tWord = s.tWord := rfl
@[simp] theorem State.answered_rhWord (s : State) : (s.answered).rhWord = s.rhWord := rfl
@[simp] theorem State.answered_errCode (s : State) : (s.answered).errCode = s.errCode := rfl
@[simp] theorem State.answered_errPhase (s : State) : (s.answered).errPhase = s.errPhase := rfl
@[simp] theorem State.answered_muxreg (s : State) : (s.answered).muxreg = s.muxreg := rfl
@[simp] theorem State.answered_busHist (s : State) : (s.answered).busHist = s.busHist := rfl
@[simp] theorem State.answered_sinkHist (s : State) : (s.answered).sinkHist = s.sinkHist := rfl
@[simp] theorem State.answered_answers (s : State) : (s.answered).answers = s.answers.tail := rfl
@[simp] theorem State.answered_nAnswers (s : State) : (s.answered).nAnswers = s.nAnswers + 1 := rfl
@[simp] theorem State.answered_presented (s : State) : (s.answered).presented = s.presented := rfl

/-! ### `busWrite` -/

@[simp] theorem State.busWrite_cfg (s : State) (a : Addr) (bs : List Byte) : (s.busWrite a bs).cfg = s.cfg := rfl
@[simp] theorem State.busWrite_st (s : State) (a : Addr) (bs : List Byte) : (s.busWrite a bs).st = s.st := rfl
@[simp] theorem State.busWrite_idx (s : State) (a : Addr) (bs : List Byte) : (s.busWrite a bs).idx = s.idx := rfl
@[simp] theorem State.busWrite_ch (s : State) (a : Addr) (bs : List Byte) : (s.busWrite a bs).ch = s.ch := rfl
@[simp] theorem State.busWrite_wait (s : State) (a : Addr) (bs : List Byte) : (s.busWrite a bs).wait = s.wait := rfl
@[simp] theorem State.busWrite_attempts (s : State) (a : Addr) (bs : List Byte) : (s.busWrite a bs).attempts = s.attempts := rfl
@[simp] theorem State.busWrite_msb (s : State) (a : Addr) (bs : List Byte) : (s.busWrite a bs).msb = s.msb := rfl
@[simp] theorem State.busWrite_lsb (s : State) (a : Addr) (bs : List Byte) : (s.busWrite a bs).lsb = s.lsb := rfl
@[simp] theorem State.busWrite_chk (s : State) (a : Addr) (bs : List Byte) : (s.busWrite a bs).chk = s.chk := rfl
@[simp] theorem State.busWrite_tWord (s : State) (a : Addr) (bs : List Byte) : (s.busWrite a bs).tWord = s.tWord := rfl
@[simp] theorem State.busWrite_rhWord (s : State) (a : Addr) (bs : List Byte) : (s.busWrite a bs).rhWord = s.rhWord := rfl
@[simp] theorem State.busWrite_errCode (s : State) (a : Addr) (bs : List Byte) : (s.busWrite a bs).errCode = s.errCode := rfl
@[simp] theorem State.busWrite_errPhase (s : State) (a : Addr) (bs : List Byte) : (s.busWrite a bs).errPhase = s.errPhase := rfl
@[simp] theorem State.busWrite_muxreg (s : State) (a : Addr) (bs : List Byte) : (s.busWrite a bs).muxreg = s.muxreg := rfl
@[simp] theorem State.busWrite_busHist (s : State) (a : Addr) (bs : List Byte) : (s.busWrite a bs).busHist = s.busHist ++ [⟨.write, a, bs, s.writeResp a bs, [], s.muxreg⟩] := rfl
@[simp] theorem State.busWrite_sinkHist (s : State) (a : Addr) (bs : List Byte) : (s.busWrite a bs).sinkHist = s.sinkHist := rfl
@[simp] theorem State.busWrite_answers (s : State) (a : Addr) (bs : List Byte) : (s.busWrite a bs).answers = s.answers.tail := rfl
@[simp] theorem State.busWrite_nAnswers (s : State) (a : Addr) (bs : List Byte) : (s.busWrite a bs).nAnswers = s.nAnswers + 1 := rfl
@[simp] theorem State.busWrite_presented (s : State) (a : Addr) (bs : List Byte) : (s.busWrite a bs).presented = s.presented := rfl

/-! ### `busRead` -/

@[simp] theorem State.busRead_cfg (s : State) (a : Addr) : (s.busRead a).cfg = s.cfg := rfl
@[simp] theorem State.busRead_st (s : State) (a : Addr) : (s.busRead a).st = s.st := rfl
@[simp] theorem State.busRead_idx (s : State) (a : Addr) : (s.busRead a).idx = s.idx := rfl
@[simp] theorem State.busRead_ch (s : State) (a : Addr) : (s.busRead a).ch = s.ch := rfl
@[simp] theorem State.busRead_wait (s : State) (a : Addr) : (s.busRead a).wait = s.wait := rfl
@[simp] theorem State.busRead_attempts (s : State) (a : Addr) : (s.busRead a).attempts = s.attempts := rfl
@[simp] theorem State.busRead_msb (s : State) (a : Addr) : (s.busRead a).msb = s.msb := rfl
@[simp] theorem State.busRead_lsb (s : State) (a : Addr) : (s.busRead a).lsb = s.lsb := rfl
@[simp] theorem State.busRead_chk (s : State) (a : Addr) : (s.busRead a).chk = s.chk := rfl
@[simp] theorem State.busRead_tWord (s : State) (a : Addr) : (s.busRead a).tWord = s.tWord := rfl
@[simp] theorem State.busRead_rhWord (s : State) (a : Addr) : (s.busRead a).rhWord = s.rhWord := rfl
@[simp] theorem State.busRead_errCode (s : State) (a : Addr) : (s.busRead a).errCode = s.errCode := rfl
@[simp] theorem State.busRead_errPhase (s : State) (a : Addr) : (s.busRead a).errPhase = s.errPhase := rfl
@[simp] theorem State.busRead_muxreg (s : State) (a : Addr) : (s.busRead a).muxreg = s.muxreg := rfl
@[simp] theorem State.busRead_busHist (s : State) (a : Addr) : (s.busRead a).busHist = s.busHist ++
      [⟨.read, a, [], s.readResp a, if s.readResp a = .ack then s.readData else [], s.muxreg⟩] := rfl
@[simp] theorem State.busRead_sinkHist (s : State) (a : Addr) : (s.busRead a).sinkHist = s.sinkHist := rfl
@[simp] theorem State.busRead_answers (s : State) (a : Addr) : (s.busRead a).answers = s.answers.tail := rfl
@[simp] theorem State.busRead_nAnswers (s : State) (a : Addr) : (s.busRead a).nAnswers = s.nAnswers + 1 := rfl
@[simp] theorem State.busRead_presented (s : State) (a : Addr) : (s.busRead a).presented = s.presented := rfl

/-! ### `muxWrite` -/

@[simp] theorem State.muxWrite_cfg (s : State) (b : Byte) : (s.muxWrite b).cfg = s.cfg := rfl
@[simp] theorem State.muxWrite_st (s : State) (b : Byte) : (s.muxWrite b).st = s.st := rfl
@[simp] theorem State.muxWrite_idx (s : State) (b : Byte) : (s.muxWrite b).idx = s.idx := rfl
@[simp] theorem State.muxWrite_ch (s : State) (b : Byte) : (s.muxWrite b).ch = s.ch := rfl
@[simp] theorem State.muxWrite_wait (s : State) (b : Byte) : (s.muxWrite b).wait = s.wait := rfl
@[simp] theorem State.muxWrite_attempts (s : State) (b : Byte) : (s.muxWrite b).attempts = s.attempts := rfl
@[simp] theorem State.muxWrite_msb (s : State) (b : Byte) : (s.muxWrite b).msb = s.msb := rfl
@[simp] theorem State.muxWrite_lsb (s : State) (b : Byte) : (s.muxWrite b).lsb = s.lsb := rfl
@[simp] theorem State.muxWrite_chk (s : State) (b : Byte) : (s.muxWrite b).chk = s.chk := rfl
@[simp] theorem State.muxWrite_tWord (s : State) (b : Byte) : (s.muxWrite b).tWord = s.tWord := rfl
@[simp] theorem State.muxWrite_rhWord (s : State) (b : Byte) : (s.muxWrite b).rhWord = s.rhWord := rfl
@[simp] theorem State.muxWrite_errCode (s : State) (b : Byte) : (s.muxWrite b).errCode = s.errCode := rfl
@[simp] theorem State.muxWrite_errPhase (s : State) (b : Byte) : (s.muxWrite b).errPhase = s.errPhase := rfl
@[simp] theorem State.muxWrite_muxreg (s : State) (b : Byte) : (s.muxWrite b).muxreg = if s.muxResp b = .ack then b else s.answer.mux := rfl
@[simp] theorem State.muxWrite_busHist (s : State) (b : Byte) : (s.muxWrite b).busHist = s.busHist ++
      [⟨.write, s.cfg.muxAddr, [b], s.muxResp b, [], s.muxreg⟩] := rfl
@[simp] theorem State.muxWrite_sinkHist (s : State) (b : Byte) : (s.muxWrite b).sinkHist = s.sinkHist := rfl
@[simp] theorem State.muxWrite_answers (s : State) (b : Byte) : (s.muxWrite b).answers = s.answers.tail := rfl
@[simp] theorem State.muxWrite_nAnswers (s : State) (b : Byte) : (s.muxWrite b).nAnswers = s.nAnswers + 1 := rfl
@[simp] theorem State.muxWrite_presented (s : State) (b : Byte) : (s.muxWrite b).presented = s.presented := rfl

/-! ### `trigger` -/

@[simp] theorem State.trigger_cfg (s : State) (k : Kind) : (s.trigger k).cfg = s.cfg := rfl
@[simp] theorem State.trigger_st (s : State) (k : Kind) : (s.trigger k).st = s.st := rfl
@[simp] theorem State.trigger_idx (s : State) (k : Kind) : (s.trigger k).idx = s.idx := rfl
@[simp] theorem State.trigger_ch (s : State) (k : Kind) : (s.trigger k).ch = s.ch := rfl
@[simp] theorem State.trigger_wait (s : State) (k : Kind) : (s.trigger k).wait = s.wait := rfl
@[simp] theorem State.trigger_attempts (s : State) (k : Kind) : (s.trigger k).attempts = s.attempts := rfl
@[simp] theorem State.trigger_msb (s : State) (k : Kind) : (s.trigger k).msb = s.msb := rfl
@[simp] theorem State.trigger_lsb (s : State) (k : Kind) : (s.trigger k).lsb = s.lsb := rfl
@[simp] theorem State.trigger_chk (s : State) (k : Kind) : (s.trigger k).chk = s.chk := rfl
@[simp] theorem State.trigger_tWord (s : State) (k : Kind) : (s.trigger k).tWord = s.tWord := rfl
@[simp] theorem State.trigger_rhWord (s : State) (k : Kind) : (s.trigger k).rhWord = s.rhWord := rfl
@[simp] theorem State.trigger_errCode (s : State) (k : Kind) : (s.trigger k).errCode = s.errCode := rfl
@[simp] theorem State.trigger_errPhase (s : State) (k : Kind) : (s.trigger k).errPhase = s.errPhase := rfl
@[simp] theorem State.trigger_muxreg (s : State) (k : Kind) : (s.trigger k).muxreg = s.muxreg := rfl
@[simp] theorem State.trigger_busHist (s : State) (k : Kind) : (s.trigger k).busHist = s.busHist ++
      [⟨.write, s.cfg.sensorAddr, [triggerCmd s.cfg k], s.trigResp k, [], s.muxreg⟩] := rfl
@[simp] theorem State.trigger_sinkHist (s : State) (k : Kind) : (s.trigger k).sinkHist = s.sinkHist := rfl
@[simp] theorem State.trigger_answers (s : State) (k : Kind) : (s.trigger k).answers = s.answers.tail := rfl
@[simp] theorem State.trigger_nAnswers (s : State) (k : Kind) : (s.trigger k).nAnswers = s.nAnswers + 1 := rfl
@[simp] theorem State.trigger_presented (s : State) (k : Kind) : (s.trigger k).presented = s.presented := rfl

/-! ### `pollOnce` -/

@[simp] theorem State.pollOnce_cfg (s : State) : (s.pollOnce).cfg = s.cfg := by
  unfold State.pollOnce; split <;> rfl
@[simp] theorem State.pollOnce_st (s : State) : (s.pollOnce).st = s.st := by
  unfold State.pollOnce; split <;> rfl
@[simp] theorem State.pollOnce_idx (s : State) : (s.pollOnce).idx = s.idx := by
  unfold State.pollOnce; split <;> rfl
@[simp] theorem State.pollOnce_ch (s : State) : (s.pollOnce).ch = s.ch := by
  unfold State.pollOnce; split <;> rfl
@[simp] theorem State.pollOnce_wait (s : State) : (s.pollOnce).wait = s.wait := by
  unfold State.pollOnce; split <;> rfl
@[simp] theorem State.pollOnce_attempts (s : State) : (s.pollOnce).attempts = s.attempts := by
  unfold State.pollOnce; split <;> rfl
@[simp] theorem State.pollOnce_msb (s : State) : (s.pollOnce).msb = if s.pollResp = .ack then s.answer.m else s.msb := by
  unfold State.pollOnce; split <;> rfl
@[simp] theorem State.pollOnce_lsb (s : State) : (s.pollOnce).lsb = if s.pollResp = .ack then s.answer.l else s.lsb := by
  unfold State.pollOnce; split <;> rfl
@[simp] theorem State.pollOnce_chk (s : State) : (s.pollOnce).chk = if s.pollResp = .ack then s.answer.c else s.chk := by
  unfold State.pollOnce; split <;> rfl
@[simp] theorem State.pollOnce_tWord (s : State) : (s.pollOnce).tWord = s.tWord := by
  unfold State.pollOnce; split <;> rfl
@[simp] theorem State.pollOnce_rhWord (s : State) : (s.pollOnce).rhWord = s.rhWord := by
  unfold State.pollOnce; split <;> rfl
@[simp] theorem State.pollOnce_errCode (s : State) : (s.pollOnce).errCode = s.errCode := by
  unfold State.pollOnce; split <;> rfl
@[simp] theorem State.pollOnce_errPhase (s : State) : (s.pollOnce).errPhase = s.errPhase := by
  unfold State.pollOnce; split <;> rfl
@[simp] theorem State.pollOnce_muxreg (s : State) : (s.pollOnce).muxreg = s.muxreg := by
  unfold State.pollOnce; split <;> rfl
@[simp] theorem State.pollOnce_busHist (s : State) : (s.pollOnce).busHist = s.busHist ++
      [⟨.read, s.cfg.sensorAddr, [], s.pollResp, if s.pollResp = .ack then s.readData else [], s.muxreg⟩] := by
  unfold State.pollOnce State.pollResp; split <;> simp_all
@[simp] theorem State.pollOnce_sinkHist (s : State) : (s.pollOnce).sinkHist = s.sinkHist := by
  unfold State.pollOnce; split <;> rfl
@[simp] theorem State.pollOnce_answers (s : State) : (s.pollOnce).answers = s.answers.tail := by
  unfold State.pollOnce; split <;> rfl
@[simp] theorem State.pollOnce_nAnswers (s : State) : (s.pollOnce).nAnswers = s.nAnswers + 1 := by
  unfold State.pollOnce; split <;> rfl
@[simp] theorem State.pollOnce_presented (s : State) : (s.pollOnce).presented = s.presented := by
  unfold State.pollOnce; split <;> rfl

/-! ### `emit` -/

@[simp] theorem State.emit_cfg (s : State) (e : Event) : (s.emit e).cfg = s.cfg := rfl
@[simp] theorem State.emit_st (s : State) (e : Event) : (s.emit e).st = s.st := rfl
@[simp] theorem State.emit_idx (s : State) (e : Event) : (s.emit e).idx = s.idx := rfl
@[simp] theorem State.emit_ch (s : State) (e : Event) : (s.emit e).ch = s.ch := rfl
@[simp] theorem State.emit_wait (s : State) (e : Event) : (s.emit e).wait = s.wait := rfl
@[simp] theorem State.emit_attempts (s : State) (e : Event) : (s.emit e).attempts = s.attempts := rfl
@[simp] theorem State.emit_msb (s : State) (e : Event) : (s.emit e).msb = s.msb := rfl
@[simp] theorem State.emit_lsb (s : State) (e : Event) : (s.emit e).lsb = s.lsb := rfl
@[simp] theorem State.emit_chk (s : State) (e : Event) : (s.emit e).chk = s.chk := rfl
@[simp] theorem State.emit_tWord (s : State) (e : Event) : (s.emit e).tWord = s.tWord := rfl
@[simp] theorem State.emit_rhWord (s : State) (e : Event) : (s.emit e).rhWord = s.rhWord := rfl
@[simp] theorem State.emit_errCode (s : State) (e : Event) : (s.emit e).errCode = s.errCode := rfl
@[simp] theorem State.emit_errPhase (s : State) (e : Event) : (s.emit e).errPhase = s.errPhase := rfl
@[simp] theorem State.emit_muxreg (s : State) (e : Event) : (s.emit e).muxreg = s.muxreg := rfl
@[simp] theorem State.emit_busHist (s : State) (e : Event) : (s.emit e).busHist = s.busHist := rfl
@[simp] theorem State.emit_sinkHist (s : State) (e : Event) : (s.emit e).sinkHist = s.sinkHist ++ [e] := rfl
@[simp] theorem State.emit_answers (s : State) (e : Event) : (s.emit e).answers = s.answers := rfl
@[simp] theorem State.emit_nAnswers (s : State) (e : Event) : (s.emit e).nAnswers = s.nAnswers := rfl
@[simp] theorem State.emit_presented (s : State) (e : Event) : (s.emit e).presented = s.presented := rfl

/-! ### `raiseFail` -/

@[simp] theorem State.raiseFail_cfg (s : State) (c : ErrCode) (p : Phase) : (s.raiseFail c p).cfg = s.cfg := rfl
@[simp] theorem State.raiseFail_st (s : State) (c : ErrCode) (p : Phase) : (s.raiseFail c p).st = St.failed := rfl
@[simp] theorem State.raiseFail_idx (s : State) (c : ErrCode) (p : Phase) : (s.raiseFail c p).idx = s.idx := rfl
@[simp] theorem State.raiseFail_ch (s : State) (c : ErrCode) (p : Phase) : (s.raiseFail c p).ch = s.ch := rfl
@[simp] theorem State.raiseFail_wait (s : State) (c : ErrCode) (p : Phase) : (s.raiseFail c p).wait = 0 := rfl
@[simp] theorem State.raiseFail_attempts (s : State) (c : ErrCode) (p : Phase) : (s.raiseFail c p).attempts = s.attempts := rfl
@[simp] theorem State.raiseFail_msb (s : State) (c : ErrCode) (p : Phase) : (s.raiseFail c p).msb = s.msb := rfl
@[simp] theorem State.raiseFail_lsb (s : State) (c : ErrCode) (p : Phase) : (s.raiseFail c p).lsb = s.lsb := rfl
@[simp] theorem State.raiseFail_chk (s : State) (c : ErrCode) (p : Phase) : (s.raiseFail c p).chk = s.chk := rfl
@[simp] theorem State.raiseFail_tWord (s : State) (c : ErrCode) (p : Phase) : (s.raiseFail c p).tWord = s.tWord := rfl
@[simp] theorem State.raiseFail_rhWord (s : State) (c : ErrCode) (p : Phase) : (s.raiseFail c p).rhWord = s.rhWord := rfl
@[simp] theorem State.raiseFail_errCode (s : State) (c : ErrCode) (p : Phase) : (s.raiseFail c p).errCode = c.bits := rfl
@[simp] theorem State.raiseFail_errPhase (s : State) (c : ErrCode) (p : Phase) : (s.raiseFail c p).errPhase = p.bits := rfl
@[simp] theorem State.raiseFail_muxreg (s : State) (c : ErrCode) (p : Phase) : (s.raiseFail c p).muxreg = s.muxreg := rfl
@[simp] theorem State.raiseFail_busHist (s : State) (c : ErrCode) (p : Phase) : (s.raiseFail c p).busHist = s.busHist := rfl
@[simp] theorem State.raiseFail_sinkHist (s : State) (c : ErrCode) (p : Phase) : (s.raiseFail c p).sinkHist = s.sinkHist := rfl
@[simp] theorem State.raiseFail_answers (s : State) (c : ErrCode) (p : Phase) : (s.raiseFail c p).answers = s.answers := rfl
@[simp] theorem State.raiseFail_nAnswers (s : State) (c : ErrCode) (p : Phase) : (s.raiseFail c p).nAnswers = s.nAnswers := rfl
@[simp] theorem State.raiseFail_presented (s : State) (c : ErrCode) (p : Phase) : (s.raiseFail c p).presented = s.presented := rfl

/-! ### `toNextChannel` -/

@[simp] theorem State.toNextChannel_cfg (s : State) : (s.toNextChannel).cfg = s.cfg := rfl
@[simp] theorem State.toNextChannel_st (s : State) : (s.toNextChannel).st = St.idle := rfl
@[simp] theorem State.toNextChannel_idx (s : State) : (s.toNextChannel).idx = nextIdx s.cfg s.idx := rfl
@[simp] theorem State.toNextChannel_ch (s : State) : (s.toNextChannel).ch = s.ch := rfl
@[simp] theorem State.toNextChannel_wait (s : State) : (s.toNextChannel).wait = s.cfg.channelDelay := rfl
@[simp] theorem State.toNextChannel_attempts (s : State) : (s.toNextChannel).attempts = s.attempts := rfl
@[simp] theorem State.toNextChannel_msb (s : State) : (s.toNextChannel).msb = s.msb := rfl
@[simp] theorem State.toNextChannel_lsb (s : State) : (s.toNextChannel).lsb = s.lsb := rfl
@[simp] theorem State.toNextChannel_chk (s : State) : (s.toNextChannel).chk = s.chk := rfl
@[simp] theorem State.toNextChannel_tWord (s : State) : (s.toNextChannel).tWord = s.tWord := rfl
@[simp] theorem State.toNextChannel_rhWord (s : State) : (s.toNextChannel).rhWord = s.rhWord := rfl
@[simp] theorem State.toNextChannel_errCode (s : State) : (s.toNextChannel).errCode = s.errCode := rfl
@[simp] theorem State.toNextChannel_errPhase (s : State) : (s.toNextChannel).errPhase = s.errPhase := rfl
@[simp] theorem State.toNextChannel_muxreg (s : State) : (s.toNextChannel).muxreg = s.muxreg := rfl
@[simp] theorem State.toNextChannel_busHist (s : State) : (s.toNextChannel).busHist = s.busHist := rfl
@[simp] theorem State.toNextChannel_sinkHist (s : State) : (s.toNextChannel).sinkHist = s.sinkHist := rfl
@[simp] theorem State.toNextChannel_answers (s : State) : (s.toNextChannel).answers = s.answers := rfl
@[simp] theorem State.toNextChannel_nAnswers (s : State) : (s.toNextChannel).nAnswers = s.nAnswers := rfl
@[simp] theorem State.toNextChannel_presented (s : State) : (s.toNextChannel).presented = s.presented := rfl

/-! ### `startPolling` -/

@[simp] theorem State.startPolling_cfg (s : State) (p : BitVec 4) : (s.startPolling p).cfg = s.cfg := rfl
@[simp] theorem State.startPolling_st (s : State) (p : BitVec 4) : (s.startPolling p).st = p := rfl
@[simp] theorem State.startPolling_idx (s : State) (p : BitVec 4) : (s.startPolling p).idx = s.idx := rfl
@[simp] theorem State.startPolling_ch (s : State) (p : BitVec 4) : (s.startPolling p).ch = s.ch := rfl
@[simp] theorem State.startPolling_wait (s : State) (p : BitVec 4) : (s.startPolling p).wait = s.cfg.pollInterval := rfl
@[simp] theorem State.startPolling_attempts (s : State) (p : BitVec 4) : (s.startPolling p).attempts = 0 := rfl
@[simp] theorem State.startPolling_msb (s : State) (p : BitVec 4) : (s.startPolling p).msb = s.msb := rfl
@[simp] theorem State.startPolling_lsb (s : State) (p : BitVec 4) : (s.startPolling p).lsb = s.lsb := rfl
@[simp] theorem State.startPolling_chk (s : State) (p : BitVec 4) : (s.startPolling p).chk = s.chk := rfl
@[simp] theorem State.startPolling_tWord (s : State) (p : BitVec 4) : (s.startPolling p).tWord = s.tWord := rfl
@[simp] theorem State.startPolling_rhWord (s : State) (p : BitVec 4) : (s.startPolling p).rhWord = s.rhWord := rfl
@[simp] theorem State.startPolling_errCode (s : State) (p : BitVec 4) : (s.startPolling p).errCode = s.errCode := rfl
@[simp] theorem State.startPolling_errPhase (s : State) (p : BitVec 4) : (s.startPolling p).errPhase = s.errPhase := rfl
@[simp] theorem State.startPolling_muxreg (s : State) (p : BitVec 4) : (s.startPolling p).muxreg = s.muxreg := rfl
@[simp] theorem State.startPolling_busHist (s : State) (p : BitVec 4) : (s.startPolling p).busHist = s.busHist := rfl
@[simp] theorem State.startPolling_sinkHist (s : State) (p : BitVec 4) : (s.startPolling p).sinkHist = s.sinkHist := rfl
@[simp] theorem State.startPolling_answers (s : State) (p : BitVec 4) : (s.startPolling p).answers = s.answers := rfl
@[simp] theorem State.startPolling_nAnswers (s : State) (p : BitVec 4) : (s.startPolling p).nAnswers = s.nAnswers := rfl
@[simp] theorem State.startPolling_presented (s : State) (p : BitVec 4) : (s.startPolling p).presented = s.presented := rfl

/-! ### `startIteration` -/

@[simp] theorem State.startIteration_cfg (s : State) : (s.startIteration).cfg = s.cfg := rfl
@[simp] theorem State.startIteration_st (s : State) : (s.startIteration).st = s.st := rfl
@[simp] theorem State.startIteration_idx (s : State) : (s.startIteration).idx = s.idx := rfl
@[simp] theorem State.startIteration_ch (s : State) : (s.startIteration).ch = channelAt s.cfg s.idx := rfl
@[simp] theorem State.startIteration_wait (s : State) : (s.startIteration).wait = s.wait := rfl
@[simp] theorem State.startIteration_attempts (s : State) : (s.startIteration).attempts = s.attempts := rfl
@[simp] theorem State.startIteration_msb (s : State) : (s.startIteration).msb = s.msb := rfl
@[simp] theorem State.startIteration_lsb (s : State) : (s.startIteration).lsb = s.lsb := rfl
@[simp] theorem State.startIteration_chk (s : State) : (s.startIteration).chk = s.chk := rfl
@[simp] theorem State.startIteration_tWord (s : State) : (s.startIteration).tWord = s.tWord := rfl
@[simp] theorem State.startIteration_rhWord (s : State) : (s.startIteration).rhWord = s.rhWord := rfl
@[simp] theorem State.startIteration_errCode (s : State) : (s.startIteration).errCode = s.errCode := rfl
@[simp] theorem State.startIteration_errPhase (s : State) : (s.startIteration).errPhase = s.errPhase := rfl
@[simp] theorem State.startIteration_muxreg (s : State) : (s.startIteration).muxreg = s.muxreg := rfl
@[simp] theorem State.startIteration_busHist (s : State) : (s.startIteration).busHist = s.busHist := rfl
@[simp] theorem State.startIteration_sinkHist (s : State) : (s.startIteration).sinkHist = s.sinkHist ++ [.cycleStart (channelAt s.cfg s.idx)] := rfl
@[simp] theorem State.startIteration_answers (s : State) : (s.startIteration).answers = s.answers := rfl
@[simp] theorem State.startIteration_nAnswers (s : State) : (s.startIteration).nAnswers = s.nAnswers := rfl
@[simp] theorem State.startIteration_presented (s : State) : (s.startIteration).presented = s.presented := rfl

/-! ### `consume` -/

@[simp] theorem State.consume_cfg (s : State) : (s.consume).cfg = s.cfg := rfl
@[simp] theorem State.consume_st (s : State) : (s.consume).st = s.st := rfl
@[simp] theorem State.consume_idx (s : State) : (s.consume).idx = s.idx := rfl
@[simp] theorem State.consume_ch (s : State) : (s.consume).ch = s.ch := rfl
@[simp] theorem State.consume_wait (s : State) : (s.consume).wait = s.wait := rfl
@[simp] theorem State.consume_attempts (s : State) : (s.consume).attempts = s.attempts := rfl
@[simp] theorem State.consume_msb (s : State) : (s.consume).msb = s.msb := rfl
@[simp] theorem State.consume_lsb (s : State) : (s.consume).lsb = s.lsb := rfl
@[simp] theorem State.consume_chk (s : State) : (s.consume).chk = s.chk := rfl
@[simp] theorem State.consume_tWord (s : State) : (s.consume).tWord = s.tWord := rfl
@[simp] theorem State.consume_rhWord (s : State) : (s.consume).rhWord = s.rhWord := rfl
@[simp] theorem State.consume_errCode (s : State) : (s.consume).errCode = s.errCode := rfl
@[simp] theorem State.consume_errPhase (s : State) : (s.consume).errPhase = s.errPhase := rfl
@[simp] theorem State.consume_muxreg (s : State) : (s.consume).muxreg = s.muxreg := rfl
@[simp] theorem State.consume_busHist (s : State) : (s.consume).busHist = s.busHist := rfl
@[simp] theorem State.consume_sinkHist (s : State) : (s.consume).sinkHist = s.sinkHist := rfl
@[simp] theorem State.consume_answers (s : State) : (s.consume).answers = s.answers := rfl
@[simp] theorem State.consume_nAnswers (s : State) : (s.consume).nAnswers = s.nAnswers := rfl
@[simp] theorem State.consume_presented (s : State) : (s.consume).presented = [] := rfl

end Sys2Proof.Machine
end

