-- ==== Sys2Proof/Laws/Ops.lean ====
section
/-! SUPPORT. One lemma for each shared operation, saying once everything it can do; the statements' provers cite these
instead of unfolding the operations. -/

namespace Sys2Proof.Machine

/-! ### Responses -/

theorem resp_ne_ack {r : Resp} : r ≠ .ack ↔ r = .nack := by cases r <;> simp

/-- The response of a one-byte write: acknowledged exactly when a device is reached and acknowledges both bytes. -/
theorem State.writeResp_one (s : State) (a : Addr) (b : Byte) :
    s.writeResp a [b] = respOf (reaches s.cfg s.muxreg a && s.answer.addrAck && s.answer.dataAck) := by
  unfold State.writeResp writeFrame
  cases reaches s.cfg s.muxreg a <;> cases s.answer.addrAck <;> cases s.answer.dataAck <;> rfl

/-- The response of a read: only the address byte can be refused. -/
theorem State.readResp_eq (s : State) (a : Addr) :
    s.readResp a = respOf (reaches s.cfg s.muxreg a && s.answer.addrAck) := by
  unfold State.readResp readFrame respOf
  split <;> rfl

theorem respOf_ack {b : Bool} : respOf b = .ack ↔ b = true := by cases b <;> simp [respOf]

theorem respOf_nack {b : Bool} : respOf b = .nack ↔ b = false := by cases b <;> simp [respOf]

/-- No segment is connected exactly when `MUXREG` is 0 (10_state.md R31). -/
theorem connectedSegments_isEmpty : ∀ m : Byte, (connectedSegments m).isEmpty = (m == 0) := by decide +kernel

/-- A segment is listed exactly when it is connected. -/
theorem mem_connectedSegments (m : Byte) (i : Channel) :
    i ∈ connectedSegments m ↔ segmentConnected m i = true := by
  have h : i ∈ ([0, 1, 2, 3, 4, 5, 6, 7] : List Channel) := by revert i; decide
  simp only [connectedSegments, List.mem_filter, h, true_and]

/-- With a channel's mask in `MUXREG`, its segment alone is connected. -/
theorem connectedSegments_muxMask : ∀ ch : Channel, connectedSegments (muxMask ch) = [ch] := by decide

/-- The multiplexer is reached whatever `MUXREG` holds (20_memory.md R51). -/
@[simp] theorem reaches_mux (c : Config) (m : Byte) : reaches c m c.muxAddr = true := by
  simp [reaches, devicesReached]

/-- The sensor address is reached exactly when some segment is connected (R51). -/
theorem reaches_sensor {c : Config} (m : Byte) (h : c.muxAddr ≠ c.sensorAddr) :
    reaches c m c.sensorAddr = (m != 0) := by
  have hm : (connectedSegments m).isEmpty = (m == 0) := by rw [connectedSegments_isEmpty]
  simp [reaches, devicesReached, h.symm, bne]
  simpa using hm

theorem State.muxResp_eq (s : State) (b : Byte) :
    s.muxResp b = respOf (s.answer.addrAck && s.answer.dataAck) := by
  simp [State.muxResp, State.writeResp_one]

theorem State.trigResp_eq (s : State) (k : Kind) :
    s.trigResp k =
      respOf (reaches s.cfg s.muxreg s.cfg.sensorAddr && s.answer.addrAck && s.answer.dataAck) :=
  State.writeResp_one ..

theorem State.pollResp_eq (s : State) :
    s.pollResp = respOf (reaches s.cfg s.muxreg s.cfg.sensorAddr && s.answer.addrAck) :=
  State.readResp_eq ..

/-! ### The operations that end in one of two ways -/

theorem State.selectChannel_ack {s : State} {ch : Channel} (h : s.muxResp (muxMask ch) = .ack) :
    s.selectChannel ch = s.muxWrite (muxMask ch) := by
  unfold State.selectChannel; rw [h]

theorem State.selectChannel_nack {s : State} {ch : Channel} (h : s.muxResp (muxMask ch) = .nack) :
    s.selectChannel ch = (s.muxWrite (muxMask ch)).raiseFail .noAck .select := by
  unfold State.selectChannel; rw [h]

theorem State.triggerOrFail_ack {s : State} {k : Kind} (h : s.trigResp k = .ack) :
    s.triggerOrFail k = s.trigger k := by
  unfold State.triggerOrFail; rw [h]

theorem State.triggerOrFail_nack {s : State} {k : Kind} (h : s.trigResp k = .nack) :
    s.triggerOrFail k = (s.trigger k).raiseFail .noAck (trigPhase k) := by
  unfold State.triggerOrFail; rw [h]

theorem State.selectStep_ack {s : State} (h : s.muxResp (muxMask s.ch) = .ack) :
    s.selectStep = { s.muxWrite (muxMask s.ch) with wait := s.cfg.settle, st := St.chSelected } := by
  unfold State.selectStep; rw [h]

theorem State.selectStep_nack {s : State} (h : s.muxResp (muxMask s.ch) = .nack) :
    s.selectStep = (s.muxWrite (muxMask s.ch)).raiseFail .noAck .select := by
  unfold State.selectStep; rw [h]

theorem State.pollingStep_ack {s : State} {k : Kind} {st : BitVec 4} (h : s.pollResp = .ack) :
    s.pollingStep k st = { s.pollOnce with attempts := s.attempts + 1, st := st } := by
  unfold State.pollingStep; rw [h]

theorem State.pollingStep_timeout {s : State} {k : Kind} {st : BitVec 4} (h : s.pollResp = .nack)
    (hm : s.attempts + 1 = pollMax s.cfg k) :
    s.pollingStep k st =
      { s.pollOnce with attempts := s.attempts + 1 }.raiseFail .timeout (pollPhase k) := by
  unfold State.pollingStep; rw [h]; simp [hm]

theorem State.pollingStep_again {s : State} {k : Kind} {st : BitVec 4} (h : s.pollResp = .nack)
    (hm : s.attempts + 1 ≠ pollMax s.cfg k) :
    s.pollingStep k st =
      { s.pollOnce with attempts := s.attempts + 1, wait := s.cfg.pollInterval } := by
  unfold State.pollingStep; rw [h]; simp [hm]

theorem State.storeAndTriggerRh_ack {s : State} (h : s.trigResp .humidity = .ack) :
    s.storeAndTriggerRh =
      { s.trigger .humidity with tWord := wordOf s.msb s.lsb, st := St.rhTriggered } := by
  unfold State.storeAndTriggerRh; rw [h]

theorem State.storeAndTriggerRh_nack {s : State} (h : s.trigResp .humidity = .nack) :
    s.storeAndTriggerRh =
      { s.trigger .humidity with tWord := wordOf s.msb s.lsb }.raiseFail .noAck .trigRh := by
  unfold State.storeAndTriggerRh; rw [h]

/-- A multiplexer mask is never zero, so a selected channel connects a segment (40_mux_writer.md R101). -/
theorem muxMask_ne_zero (ch : Channel) : muxMask ch ≠ 0 := by
  revert ch; decide

/-! ### One step -/

/-- With nothing presented, the bytes fetched are the select code. -/
theorem State.fetchBytes_free {s : State} (h : s.presented = []) :
    s.fetchBytes = selectByte s.selectCode := by
  unfold State.fetchBytes; rw [h]

theorem State.consume_free {s : State} (h : s.presented = []) : s.consume = s := by
  unfold State.consume; rw [← h]

/-- A step-select byte decodes to the step its code selects. -/
theorem decode_selectByte (c : Config) (w : BitVec 5) : decode c (selectByte w) = .ok (decodeSelect w) := by
  have h : (w.setWidth 8).extractLsb' 5 3 = 0#3 := by revert w; decide
  have h' : (w.setWidth 8).extractLsb' 0 5 = w := by revert w; decide
  simp [decode, selectByte, h, h']

/-- A select code never selects `MUXOFF`. -/
theorem decodeSelect_ne_muxoff : ∀ w : BitVec 5, decodeSelect w ≠ .muxoff := by decide

/-- A free block fetches the step its select code names. -/
theorem fetch_free {s : State} (hp : s.presented = []) : fetch s = .ok (decodeSelect s.selectCode) := by
  unfold fetch
  rw [State.fetchBytes_free hp, decode_selectByte]
  exact if_neg (decodeSelect_ne_muxoff _)

/-- Bytes that decode are fetched, but for `MUXOFF`. -/
theorem fetch_of_decode {s : State} {i : Instr} (h : decode s.cfg s.fetchBytes = .ok i) (hi : i ≠ .muxoff) :
    fetch s = .ok i := by
  unfold fetch
  rw [h]
  exact if_neg hi

/-- A free block runs the step its select code names. -/
theorem step_free {s : State} (h : s.cfg.wf = true) (hp : s.presented = []) :
    step s = exec (decodeSelect s.selectCode) s := by
  unfold step
  rw [h, fetch_free hp, State.consume_free hp]

/-- The step of a state and a waiting flag, from the select code `{st, wait = 0}`. -/
theorem decodeSelect_append : ∀ (st : BitVec 4) (z : Bool), decodeSelect (st ++ BitVec.ofBool z) =
    if 12 ≤ st.toNat then .faultIllegalState11 ((st ++ BitVec.ofBool z).extractLsb' 0 3)
    else if 10 ≤ st.toNat then .faultIllegalState101 ((st ++ BitVec.ofBool z).extractLsb' 0 2)
    else if z = false then .tick st
    else match st.toNat with
      | 0 => .sIdle
      | 1 => .sChSelected
      | 2 => .sTTriggered
      | 3 => .sTPolling
      | 4 => .sTRead
      | 5 => .sRhTriggered
      | 6 => .sRhPolling
      | 7 => .sRhRead
      | 8 => .sDone
      | _ => .sFailed := by
  decide

/-- While waiting in a legal state, a step is a tick. -/
theorem step_tick {s : State} (h : s.cfg.wf = true) (hp : s.presented = []) (hs : s.st.toNat ≤ 9)
    (hw : 0 < s.wait) : step s = .next { s with wait := s.wait - 1 } := by
  rw [step_free h hp]
  unfold State.selectCode
  rw [decodeSelect_append]
  have hz : (s.wait == 0) = false := by simpa using Nat.pos_iff_ne_zero.mp hw
  rw [if_neg (by omega), if_neg (by omega), hz]
  rfl

/-- What a free block does in one step: it faults in an illegal state, ticks while waiting, and otherwise runs the
step of its state. -/
theorem step_cases {s : State} (h : s.cfg.wf = true) (hp : s.presented = []) :
    (10 ≤ s.st.toNat ∧ step s = .fault .illegalState) ∨
    (s.st.toNat ≤ 9 ∧ 0 < s.wait ∧ step s = execTick s.st s) ∨
    (s.wait = 0 ∧
      ((s.st = St.idle ∧ step s = execSIdle s) ∨
       (s.st = St.chSelected ∧ step s = execSChSelected s) ∨
       (s.st = St.tTriggered ∧ step s = execSTTriggered s) ∨
       (s.st = St.tPolling ∧ step s = execSTPolling s) ∨
       (s.st = St.tRead ∧ step s = execSTRead s) ∨
       (s.st = St.rhTriggered ∧ step s = execSRhTriggered s) ∨
       (s.st = St.rhPolling ∧ step s = execSRhPolling s) ∨
       (s.st = St.rhRead ∧ step s = execSRhRead s) ∨
       (s.st = St.done ∧ step s = execSDone s) ∨
       (s.st = St.failed ∧ step s = execSFailed s))) := by
  rw [step_free h hp]
  unfold State.selectCode
  rw [decodeSelect_append]
  by_cases h12 : 12 ≤ s.st.toNat
  · rw [if_pos h12]; exact .inl ⟨by omega, rfl⟩
  rw [if_neg h12]
  by_cases h10 : 10 ≤ s.st.toNat
  · rw [if_pos h10]; exact .inl ⟨h10, rfl⟩
  rw [if_neg h10]
  by_cases hw : s.wait = 0
  · refine .inr (.inr ⟨hw, ?_⟩)
    have hz : (s.wait == 0) = true := by simpa using hw
    rw [hz]
    have hst : ∀ n : Nat, s.st.toNat = n → s.st = BitVec.ofNat 4 n := fun n hn => by
      rw [← hn, BitVec.ofNat_toNat, BitVec.setWidth_eq]
    have hle : s.st.toNat ≤ 9 := by omega
    obtain e | e | e | e | e | e | e | e | e | e :
        s.st.toNat = 0 ∨ s.st.toNat = 1 ∨ s.st.toNat = 2 ∨ s.st.toNat = 3 ∨ s.st.toNat = 4 ∨
        s.st.toNat = 5 ∨ s.st.toNat = 6 ∨ s.st.toNat = 7 ∨ s.st.toNat = 8 ∨ s.st.toNat = 9 := by omega
    all_goals
      have hs := hst _ e
      rw [e]
      simp [hs, exec]
  · have hz : (s.wait == 0) = false := by simpa using hw
    rw [hz]
    exact .inr (.inl ⟨by omega, by omega, rfl⟩)

/-! ### Runs -/

theorem run_one {s t : State} (h : step s = .next t) : run 1 s = .next t := by
  unfold run; rw [h]; rfl

/-- A run goes on from where a shorter run ended. -/
theorem run_add {m : Nat} (n : Nat) {s t : State} (h : run m s = .next t) : run (m + n) s = run n t := by
  induction m generalizing s with
  | zero => cases h; rw [Nat.zero_add]
  | succ m ih =>
    rw [Nat.add_right_comm]
    cases hs : step s with
    | next a =>
      simp only [run, hs] at h
      rw [← ih h]
      conv => lhs; unfold run
      rw [hs]
    | fault f => simp [run, hs] at h
    | refused r => simp [run, hs] at h

theorem run_trans {m n : Nat} {s t u : State} (h : run m s = .next t) (h' : run n t = .next u) :
    run (m + n) s = .next u := by
  rw [run_add n h, h']

end Sys2Proof.Machine
end

