-- ==== Sys2Proof/Laws/PerInstr.lean ====
section
/-! SUPPORT. The family `OpcodeRow`: the encoding of each operation under the table's defaults lies in that
operation's row of spec/opcode_table.json (30_encoding.md R83, R84): as many bits as the row, and the row's fixed bits. -/

namespace Sys2Proof.Laws.OpcodeRow

open Sys2Proof

/-- A row of the table: how many bits it has, which of them are fixed, and their values. -/
structure Row where
  nbits : Nat
  mask  : Nat
  value : Nat
  deriving DecidableEq, Repr

/-- The rows of spec/opcode_table.json, copied column by column. -/
def row : Instr → Row
  | .muxw0 => ⟨16, 0xFFFF, 0xE001⟩
  | .muxw1 => ⟨16, 0xFFFF, 0xE002⟩
  | .muxw2 => ⟨16, 0xFFFF, 0xE004⟩
  | .muxw3 => ⟨16, 0xFFFF, 0xE008⟩
  | .muxw4 => ⟨16, 0xFFFF, 0xE010⟩
  | .muxw5 => ⟨16, 0xFFFF, 0xE020⟩
  | .muxw6 => ⟨16, 0xFFFF, 0xE040⟩
  | .muxw7 => ⟨16, 0xFFFF, 0xE080⟩
  | .muxoff => ⟨16, 0xFFFF, 0xE000⟩
  | .trigT => ⟨16, 0xFFFF, 0x80F3⟩
  | .trigRh => ⟨16, 0xFFFF, 0x80F5⟩
  | .trigTHold => ⟨16, 0xFFFF, 0x80E3⟩
  | .trigRhHold => ⟨16, 0xFFFF, 0x80E5⟩
  | .poll => ⟨32, 0xFF000000, 0x81000000⟩
  | .crcCheck _ _ _ => ⟨24, 0x000000, 0x000000⟩
  | .tick _ => ⟨5, 0b00001, 0b00000⟩
  | .sIdle => ⟨5, 0b11111, 0b00001⟩
  | .sChSelected => ⟨5, 0b11111, 0b00011⟩
  | .sTTriggered => ⟨5, 0b11111, 0b00101⟩
  | .sTPolling => ⟨5, 0b11111, 0b00111⟩
  | .sTRead => ⟨5, 0b11111, 0b01001⟩
  | .sRhTriggered => ⟨5, 0b11111, 0b01011⟩
  | .sRhPolling => ⟨5, 0b11111, 0b01101⟩
  | .sRhRead => ⟨5, 0b11111, 0b01111⟩
  | .sDone => ⟨5, 0b11111, 0b10001⟩
  | .sFailed => ⟨5, 0b11111, 0b10011⟩
  | .faultIllegalState101 _ => ⟨5, 0b11100, 0b10100⟩
  | .faultIllegalState11 _ => ⟨5, 0b11000, 0b11000⟩

/-- The table number of bytes in bus order, the first byte most significant. -/
def numberOf (bs : List Byte) : Nat := bs.foldl (fun n b => n * 256 + b.toNat) 0

/-- The encoding of a well-formed operation lies in its row. -/
def Statement (i : Instr) : Prop :=
  i.wf = true →
    (encode Config.table i).length = ((row i).nbits + 7) / 8 ∧
    numberOf (encode Config.table i) < 2 ^ (row i).nbits ∧
    numberOf (encode Config.table i) &&& (row i).mask = (row i).value

theorem muxw0 : Statement .muxw0 := by unfold Statement; decide

theorem muxw1 : Statement .muxw1 := by unfold Statement; decide

theorem muxw2 : Statement .muxw2 := by unfold Statement; decide

theorem muxw3 : Statement .muxw3 := by unfold Statement; decide

theorem muxw4 : Statement .muxw4 := by unfold Statement; decide

theorem muxw5 : Statement .muxw5 := by unfold Statement; decide

theorem muxw6 : Statement .muxw6 := by unfold Statement; decide

theorem muxw7 : Statement .muxw7 := by unfold Statement; decide

theorem muxoff : Statement .muxoff := by unfold Statement; decide

theorem trigT : Statement .trigT := by unfold Statement; decide

theorem trigRh : Statement .trigRh := by unfold Statement; decide

theorem trigTHold : Statement .trigTHold := by unfold Statement; decide

theorem trigRhHold : Statement .trigRhHold := by unfold Statement; decide

theorem poll : Statement .poll := by unfold Statement; decide

theorem crcCheck (m l k : Byte) : Statement (.crcCheck m l k) := by
  intro _
  have hm := m.isLt
  have hl := l.isLt
  have hk := k.isLt
  refine ⟨by simp [encode, row], ?_, Nat.and_zero _⟩
  show ((0 * 256 + m.toNat) * 256 + l.toNat) * 256 + k.toNat < 2 ^ 24
  omega

theorem tick (st : BitVec 4) : Statement (.tick st) := by
  unfold Statement
  revert st
  decide

theorem sIdle : Statement .sIdle := by unfold Statement; decide

theorem sChSelected : Statement .sChSelected := by unfold Statement; decide

theorem sTTriggered : Statement .sTTriggered := by unfold Statement; decide

theorem sTPolling : Statement .sTPolling := by unfold Statement; decide

theorem sTRead : Statement .sTRead := by unfold Statement; decide

theorem sRhTriggered : Statement .sRhTriggered := by unfold Statement; decide

theorem sRhPolling : Statement .sRhPolling := by unfold Statement; decide

theorem sRhRead : Statement .sRhRead := by unfold Statement; decide

theorem sDone : Statement .sDone := by unfold Statement; decide

theorem sFailed : Statement .sFailed := by unfold Statement; decide

theorem faultIllegalState101 (x : BitVec 2) : Statement (.faultIllegalState101 x) := by
  unfold Statement
  revert x
  decide

theorem faultIllegalState11 (x : BitVec 3) : Statement (.faultIllegalState11 x) := by
  unfold Statement
  revert x
  decide

end Sys2Proof.Laws.OpcodeRow
end

