-- ==== Sys2Proof/Machine/Trace.lean ====
section
/-! DEFINITION. The trace syntax of spec/30_encoding.md R92: one line per step, as data and as text. -/

namespace Sys2Proof.Machine

/-- The mnemonic of a row, as spec/opcode_table.json spells it (R83, R84). -/
def mnemonic : Instr → String
  | .muxw0 => "MUXW_0"
  | .muxw1 => "MUXW_1"
  | .muxw2 => "MUXW_2"
  | .muxw3 => "MUXW_3"
  | .muxw4 => "MUXW_4"
  | .muxw5 => "MUXW_5"
  | .muxw6 => "MUXW_6"
  | .muxw7 => "MUXW_7"
  | .muxoff => "MUXOFF"
  | .trigT => "TRIG_T"
  | .trigRh => "TRIG_RH"
  | .trigTHold => "TRIG_T_HOLD"
  | .trigRhHold => "TRIG_RH_HOLD"
  | .poll => "POLL"
  | .crcCheck _ _ _ => "CRC_CHECK"
  | .tick _ => "TICK"
  | .sIdle => "S_IDLE"
  | .sChSelected => "S_CH_SELECTED"
  | .sTTriggered => "S_T_TRIGGERED"
  | .sTPolling => "S_T_POLLING"
  | .sTRead => "S_T_READ"
  | .sRhTriggered => "S_RH_TRIGGERED"
  | .sRhPolling => "S_RH_POLLING"
  | .sRhRead => "S_RH_READ"
  | .sDone => "S_DONE"
  | .sFailed => "S_FAILED"
  | .faultIllegalState101 _ => "FAULT_ILLEGAL_STATE"
  | .faultIllegalState11 _ => "FAULT_ILLEGAL_STATE"

/-- A trace line: the step, its bus transaction and its event, if any. -/
structure TraceLine where
  step  : Instr
  bus   : Option BusRecord
  event : Option Event
  deriving DecidableEq, Repr

/-- The line of a step from `s` to `t` that ran `i`: a step issues at most one transaction and at most one event
(00_scope.md R13). -/
def traceLine (i : Instr) (s t : State) : TraceLine :=
  ⟨i, (observed s t).bus.head?, (observed s t).sink.head?⟩

/-- The trace of `n` steps, ending early at a fault or refusal. -/
def trace : Nat → State → List TraceLine
  | 0, _ => []
  | n + 1, s =>
    match fetch s, step s with
    | .ok i, .next t => traceLine i s t :: trace n t
    | _, _ => []

/-- One hexadecimal digit. -/
def hexDigit (n : Nat) : String :=
  match n with
  | 0 => "0" | 1 => "1" | 2 => "2" | 3 => "3" | 4 => "4" | 5 => "5" | 6 => "6" | 7 => "7"
  | 8 => "8" | 9 => "9" | 10 => "A" | 11 => "B" | 12 => "C" | 13 => "D" | 14 => "E" | _ => "F"

/-- Two hex digits. -/
def hexByte (b : Byte) : String := hexDigit (b.toNat / 16) ++ hexDigit (b.toNat % 16)

/-- Four hex digits. -/
def hexWord (w : Word) : String := hexByte (w.extractLsb' 8 8) ++ hexByte (w.extractLsb' 0 8)

def respText : Resp → String
  | .ack => "ACK"
  | .nack => "NACK"

/-- The names of R88 and R87; the unused values have none. -/
def codeText (c : BitVec 2) : String :=
  match c.toNat with
  | 1 => "NoAck"
  | 2 => "Timeout"
  | 3 => "ChecksumMismatch"
  | _ => "-"

def phaseText (p : BitVec 3) : String :=
  match p.toNat with
  | 0 => "SELECT"
  | 1 => "TRIG_T"
  | 2 => "POLL_T"
  | 3 => "READ_T"
  | 4 => "TRIG_RH"
  | 5 => "POLL_RH"
  | 6 => "READ_RH"
  | _ => "-"

/-- The words of an event. -/
def eventText : Event → List String
  | .cycleStart ch => ["CYCLE_START", hexDigit ch.toNat]
  | .reading ch t rh => ["READING", hexDigit ch.toNat, hexWord t, hexWord rh]
  | .fail ch c p => ["FAIL", hexDigit ch.toNat, codeText c, phaseText p]

/-- The words of an operation on the bus: `MUXW ch` has its channel as a word of its own. -/
def busOpText : Instr → List String
  | .muxw0 => ["MUXW", "0"]
  | .muxw1 => ["MUXW", "1"]
  | .muxw2 => ["MUXW", "2"]
  | .muxw3 => ["MUXW", "3"]
  | .muxw4 => ["MUXW", "4"]
  | .muxw5 => ["MUXW", "5"]
  | .muxw6 => ["MUXW", "6"]
  | .muxw7 => ["MUXW", "7"]
  | i => [mnemonic i]

/-- The words of a bus record: the operation, the response, and the bytes an acknowledged poll received (R92).
DESIGN CHOICE (log 26): R92 has no words for a record the block does not issue; a row of the table is written by its name,
any other record as `NotABlockOperation` (R91). -/
def busText (c : Config) (r : BusRecord) : List String :=
  match decodeRecord c r with
  | .ok i => busOpText i ++ [respText r.resp] ++ r.recv.map hexByte
  | .error _ => ["NotABlockOperation"]

/-- The words of a line: `step [-> bus] [=> event]` (R92).
DESIGN CHOICE (log 26): R92's `step` is the name of a state-machine step only; the line of an operation given from outside
begins with the name of its opcode-table row (`MUXW_0`, `CRC_CHECK`). -/
def traceWords (c : Config) (l : TraceLine) : List String :=
  mnemonic l.step ::
    (match l.bus with
      | some r => "->" :: busText c r
      | none => []) ++
    (match l.event with
      | some e => "=>" :: eventText e
      | none => [])

/-- The line as text. -/
def traceText (c : Config) (l : TraceLine) : String := String.intercalate " " (traceWords c l)

end Sys2Proof.Machine
end

