-- ==== Sys2Proof/Tests/Slice0.lean ====
section
/-! SUPPORT. Tests of the model and the witnesses of the statements' premises. Expected values come from
spec/95_test_vectors.md; the vector a test takes them from is named in its comment. -/

namespace Sys2Proof.Machine.Tests

open Sys2Proof Sys2Proof.Machine

/-! ### Test bench -/

/-- The test configuration of 95_test_vectors.md: default addresses and commands, and its open parameters. -/
def cfg : Config where
  muxAddr := 0x70
  sensorAddr := 0x40
  cmdTNoHold := 0xF3
  cmdRhNoHold := 0xF5
  cmdTHold := 0xE3
  cmdRhHold := 0xE5
  channels := [0, 1]
  pollMaxT := 3
  pollMaxRh := 2
  pollInterval := 1
  settle := 2
  channelDelay := 3

/-- The corner configuration of program P9. -/
def cfg9 : Config :=
  { cfg with channels := [3], pollMaxT := 1, pollMaxRh := 1, pollInterval := 0, settle := 0, channelDelay := 0 }

/-- Oracle answers: acknowledge all; refuse the address byte; refuse the data byte; return three bytes. -/
def yes : Answer := ⟨true, true, 0, 0, 0, 0⟩
def no : Answer := ⟨false, false, 0, 0, 0, 0xA5⟩
def noData : Answer := ⟨true, false, 0, 0, 0, 0x5A⟩
def bytes (m l c : Byte) : Answer := ⟨true, true, m, l, c, 0⟩

/-- A block in state `x` with channel 0 selected, nothing to wait for, and answers `as` to come. -/
def at' (x : BitVec 4) (as : List Answer) : State :=
  { State.resetWith cfg 0x01 with st := x, answers := as }

/-- The outcome of a step, as data that can be compared. -/
def nextOf : Result → Option State
  | .next t => some t
  | .fault _ => none
  | .refused _ => none

def faultOf : Result → Option Fault
  | .next _ => none
  | .fault f => some f
  | .refused _ => none

def refusalOf : Result → Option Refusal
  | .next _ => none
  | .fault _ => none
  | .refused r => some r

/-- `st`, `wait`, `err_code`, `err_phase` after a step. -/
def control (r : Result) : Option (BitVec 4 × Nat × BitVec 2 × BitVec 3) :=
  (nextOf r).map fun t => (t.st, t.wait, t.errCode, t.errPhase)

/-- Bytes and response of the bus records after a step. -/
def onBus (r : Result) : Option (List (List Byte × Resp)) :=
  (nextOf r).map fun t => t.busHist.map fun b => (recordBytes b, b.resp)

/-- The sink history after a step. -/
def emitted (r : Result) : Option (List Event) := (nextOf r).map State.sinkHist

/-! ### Well-formed terms, and one ill-formed term for each check (00_scope.md R8, 30_encoding.md R84) -/

theorem test_configs_wf : cfg.wf = true ∧ cfg9.wf = true ∧ Config.table.wf = true := by decide

theorem test_wf_addresses_differ : Config.wf { cfg with sensorAddr := 0x70 } = false := by decide

theorem test_wf_channel_range :
    Config.wf { cfg with channels := [0, 8] } = false ∧ Config.wf { cfg with channels := [7] } = true := by decide

theorem test_wf_channels_nonempty : Config.wf { cfg with channels := [] } = false := by decide

theorem test_wf_budgets :
    Config.wf { cfg with pollMaxT := 0 } = false ∧ Config.wf { cfg with pollMaxRh := 0 } = false ∧
    Config.wf { cfg with pollMaxT := 1, pollMaxRh := 1 } = true := by decide

theorem test_wf_commands_distinct :
    Config.wf { cfg with cmdTNoHold := 0xF5 } = false ∧ Config.wf { cfg with cmdTNoHold := 0xE3 } = false ∧
    Config.wf { cfg with cmdTNoHold := 0xE5 } = false ∧ Config.wf { cfg with cmdRhNoHold := 0xE3 } = false ∧
    Config.wf { cfg with cmdRhNoHold := 0xE5 } = false ∧ Config.wf { cfg with cmdTHold := 0xE5 } = false := by
  decide

theorem test_wf_tick_state : (Instr.tick 10).wf = false ∧ (Instr.tick 9).wf = true := by decide

theorem test_ill_formed_configuration_refused :
    refusalOf (step { State.resetWith { cfg with channels := [] } 0 with answers := [yes] }) =
      some .illFormedConfiguration := by decide

/-! ### Decoding, from words written out from 30_encoding.md R83 and R84 -/

/-- Address byte 1110000_0, then one bit of eight (E10, E13). -/
theorem test_decode_muxw :
    decodeTableWord 16 0b1110000000000001 = some .muxw0 ∧ decodeTableWord 16 0b1110000000000010 = some .muxw1 ∧
    decodeTableWord 16 0b1110000000000100 = some .muxw2 ∧ decodeTableWord 16 0b1110000000001000 = some .muxw3 ∧
    decodeTableWord 16 0b1110000000010000 = some .muxw4 ∧ decodeTableWord 16 0b1110000000100000 = some .muxw5 ∧
    decodeTableWord 16 0b1110000001000000 = some .muxw6 ∧ decodeTableWord 16 0b1110000010000000 = some .muxw7 := by
  decide

/-- E11, E12: 0x00 is `MUXOFF`, a byte that is not one-hot is no operation. -/
theorem test_decode_muxoff :
    decodeTableWord 16 0b1110000000000000 = some .muxoff ∧ decodeTableWord 16 0b1110000000000011 = none := by decide

/-- Address byte 1000000_0, then the command byte (E14 to E16). -/
theorem test_decode_triggers :
    decodeTableWord 16 0b1000000011110011 = some .trigT ∧ decodeTableWord 16 0b1000000011110101 = some .trigRh ∧
    decodeTableWord 16 0b1000000011100011 = some .trigTHold ∧
    decodeTableWord 16 0b1000000011100101 = some .trigRhHold ∧
    decodeTableWord 16 0b1000000011111110 = none := by decide

/-- Address byte 1000000_1, then three bytes of the sensor (E17). -/
theorem test_decode_poll :
    decodeTableWord 32 0b10000001000000000000000000000000 = some .poll ∧
    decodeTableWord 32 0b10000001011010000011101001111100 = some .poll ∧
    decodeTableWord 32 0b11100001000000000000000000000000 = none := by decide

/-- Three bytes, in the order MSB, LSB, checksum (K1). -/
theorem test_decode_crc_check :
    decodeTableWord 24 0b011010000011101001111100 = some (.crcCheck 0x68 0x3A 0x7C) := by decide

/-- `{st, wait = 0}`, bit 0 set: the step of `st` (R84). -/
theorem test_decode_steps :
    decodeTableWord 5 0b00001 = some .sIdle ∧ decodeTableWord 5 0b00011 = some .sChSelected ∧
    decodeTableWord 5 0b00101 = some .sTTriggered ∧ decodeTableWord 5 0b00111 = some .sTPolling ∧
    decodeTableWord 5 0b01001 = some .sTRead ∧ decodeTableWord 5 0b01011 = some .sRhTriggered ∧
    decodeTableWord 5 0b01101 = some .sRhPolling ∧ decodeTableWord 5 0b01111 = some .sRhRead ∧
    decodeTableWord 5 0b10001 = some .sDone ∧ decodeTableWord 5 0b10011 = some .sFailed := by decide

/-- Bit 0 clear: `TICK`, for `st` up to 9; above that, the illegal-state rows come first (R84, 10_state.md R21). -/
theorem test_decode_tick_and_illegal :
    decodeTableWord 5 0b00000 = some (.tick 0) ∧ decodeTableWord 5 0b10010 = some (.tick 9) ∧
    decodeTableWord 5 0b10100 = some (.faultIllegalState101 0) ∧
    decodeTableWord 5 0b10111 = some (.faultIllegalState101 3) ∧
    decodeTableWord 5 0b11000 = some (.faultIllegalState11 0) ∧
    decodeTableWord 5 0b11111 = some (.faultIllegalState11 7) ∧
    decodeTableWord 8 0b00100001 = none := by decide

/-- E1 to E4. -/
theorem test_address_bytes :
    addrByte 0x70 .write = 0xE0 ∧ addrByte 0x40 .write = 0x80 ∧ addrByte 0x40 .read = 0x81 ∧
    addrByte 0x77 .write = 0xEE := by decide

/-- E5 to E7. -/
theorem test_word_fields :
    wordOf 0x68 0x3A = 0x683A ∧ codeOf 0x683A = 0x6838 ∧ statusOf 0x683A = 2 ∧
    wordOf 0x4E 0x85 = 0x4E85 ∧ codeOf 0x4E85 = 0x4E84 ∧ statusOf 0x4E85 = 1 ∧
    codeOf 0xFFFF = 0xFFFC ∧ statusOf 0xFFFF = 3 := by decide

/-! ### The validator and the conversion -/

/-- CR1 to CR8, CR18, CR19. -/
theorem test_crc8_vectors :
    crc8 [0x00, 0x00] = 0x00 ∧ crc8 [0x68, 0x3A] = 0x7C ∧ crc8 [0x4E, 0x85] = 0x6B ∧ crc8 [0xFF, 0xFF] = 0x2D ∧
    crc8 [0x00, 0x01] = 0x31 ∧ crc8 [0x01, 0x00] = 0xF4 ∧ crc8 [0x80, 0x00] = 0x23 ∧ crc8 [0x12, 0x34] = 0xB6 ∧
    crc8 [0xDC] = 0x79 ∧ crc8 [] = 0x00 := by decide +kernel

/-- K1 to K3, K6, K7, K10. -/
theorem test_crc_check_vectors :
    crcValid 0x68 0x3A 0x7C = true ∧ crcValid 0x68 0x3A 0x7D = false ∧ crcValid 0x69 0x3A 0x7C = false ∧
    crcValid 0x00 0x00 0x00 = true ∧ crcValid 0xFF 0xFF 0xFF = false ∧ crcValid 0x68 0x3A 0x1E = false := by decide +kernel

/-- V4, V5, V7, V8: exact values. -/
theorem test_conversion_vectors :
    tempC 0x6838 = 202231 / 8192 ∧ rhRaw 0x4E84 = 529821 / 16384 ∧ tempC 0x8000 = 4101 / 100 ∧
    humidityPct 0x8000 = 113 / 2 ∧ tempC 0xFFFC = 52780759 / 409600 ∧ humidityPct 0xFFFC = 100 ∧
    humidityPct 0 = 0 := by decide +kernel

/-- W7's reading of P1: the display shows the converted reading of channel 0. -/
theorem test_sink_shows_reading :
    ((sinkOf [.cycleStart 0, .reading 0 0x683A 0x4E85]).shown.map PhysicalReading.channel) = some 0 ∧
    (sinkOf [.reading 0 0x683A 0x4E85, .cycleStart 1, .fail 1 1 0]).shown = none := by
  constructor <;> rfl

/-! ### The rows presented on their own -/

/-- M0: the first row, and its opposite end. -/
theorem test_muxw0 :
    (nextOf (step ({ at' 0 [yes] with muxreg := 0xA5 }.withFetchWord 16 0xE001))).map State.muxreg = some 0x01 ∧
    onBus (exec .muxw0 (at' 0 [yes])) = some [([0xE0, 0x01], .ack)] := by decide

/-- M8, M9, for `MUXW 1`: refused on the address byte or on the data byte, the mask is recorded and the register drawn. -/
theorem test_muxw1_refused :
    onBus (exec .muxw1 (at' 0 [no])) = some [([0xE0, 0x02], .nack)] ∧
    (nextOf (exec .muxw1 (at' 0 [no]))).map State.muxreg = some 0xA5 ∧
    (nextOf (exec .muxw1 (at' 0 [noData]))).map State.muxreg = some 0x5A ∧
    control (exec .muxw1 (at' 0 [noData])) = some (9, 0, 1, 0) := by decide

/-- M1 to M7: one bit each. -/
theorem test_muxw_masks :
    (nextOf (exec .muxw1 (at' 0 [yes]))).map State.muxreg = some 0x02 ∧
    (nextOf (exec .muxw2 (at' 0 [yes]))).map State.muxreg = some 0x04 ∧
    (nextOf (exec .muxw3 (at' 0 [yes]))).map State.muxreg = some 0x08 ∧
    (nextOf (exec .muxw4 (at' 0 [yes]))).map State.muxreg = some 0x10 ∧
    (nextOf (exec .muxw5 (at' 0 [yes]))).map State.muxreg = some 0x20 ∧
    (nextOf (exec .muxw6 (at' 0 [yes]))).map State.muxreg = some 0x40 ∧
    (nextOf (exec .muxw7 (at' 0 [yes]))).map State.muxreg = some 0x80 := by decide

/-- 40_mux_writer.md R106; 93 U8: given to the step function, it is refused. -/
theorem test_muxoff :
    (nextOf (exec .muxoff (at' 0 [yes]))).map State.muxreg = some 0x00 ∧
    refusalOf (step ((at' 0 [yes]).withFetchWord 16 0xE000)) = some .muxoffGiven ∧
    control (exec .muxoff (at' 0 [no])) = some (0, 0, 0, 0) := by decide

/-- S1, S2. -/
theorem test_trig_t :
    onBus (step ((at' 1 [yes]).withFetchWord 16 0x80F3)) = some [([0x80, 0xF3], .ack)] ∧
    control (exec .trigT (at' 1 [no])) = some (9, 0, 1, 1) := by decide

/-- S3, and a sensor that no segment reaches (20_memory.md R51). -/
theorem test_trig_rh :
    onBus (step ((at' 4 [yes]).withFetchWord 16 0x80F5)) = some [([0x80, 0xF5], .ack)] ∧
    control (exec .trigRh { at' 4 [yes] with muxreg := 0 }) = some (9, 0, 1, 4) := by decide

/-- 41_sensor_protocol.md R122, 93 U8. -/
theorem test_hold_master_refused :
    refusalOf (step ((at' 1 [yes]).withFetchWord 16 0x80E3)) = some .holdMasterTrigger ∧
    refusalOf (step ((at' 1 [yes]).withFetchWord 16 0x80E5)) = some .holdMasterTrigger := by decide

/-- S4, S5. -/
theorem test_poll :
    onBus (exec .poll (at' 3 [no])) = some [([0x81], .nack)] ∧
    onBus (step ((at' 3 [bytes 0x68 0x3A 0x7C]).withFetchWord 32 0x81000000)) =
      some [([0x81, 0x68, 0x3A, 0x7C], .ack)] ∧
    (nextOf (exec .poll (at' 3 [bytes 0x68 0x3A 0x7C]))).map (fun t => (t.msb, t.lsb, t.chk)) =
      some (0x68, 0x3A, 0x7C) := by decide

/-- K1, K2, in a temperature and in a humidity state. -/
theorem test_crc_check :
    control (step ((at' 4 []).withFetchWord 24 0x683A7C)) = some (4, 0, 0, 0) ∧
    control (exec (.crcCheck 0x68 0x3A 0x7D) (at' 4 [])) = some (9, 0, 3, 3) ∧
    control (exec (.crcCheck 0x68 0x3A 0x7D) (at' 7 [])) = some (9, 0, 3, 6) := by decide +kernel

/-! ### The steps, by the vectors T1 to T23 -/

/-- T1. -/
theorem test_tick : control (step { at' 1 [] with wait := 2 }) = some (1, 1, 0, 0) := by decide

/-- T2, T3. -/
theorem test_s_idle :
    control (step (at' 0 [yes])) = some (1, 2, 0, 0) ∧ emitted (step (at' 0 [yes])) = some [.cycleStart 0] ∧
    onBus (step { at' 0 [no] with idx := 1 }) = some [([0xE0, 0x02], .nack)] ∧
    control (step { at' 0 [no] with idx := 1 }) = some (9, 0, 1, 0) := by decide

/-- T4, T5. -/
theorem test_s_ch_selected :
    onBus (step (at' 1 [yes])) = some [([0x80, 0xF3], .ack)] ∧ control (step (at' 1 [yes])) = some (2, 0, 0, 0) ∧
    control (step (at' 1 [no])) = some (9, 0, 1, 1) := by decide

/-- T6. -/
theorem test_s_t_triggered :
    control (step { at' 2 [] with attempts := 3 }) = some (3, 1, 0, 0) ∧
    (nextOf (step { at' 2 [] with attempts := 3 })).map State.attempts = some 0 := by decide

/-- T7, T8. -/
theorem test_s_t_polling_refused :
    control (step (at' 3 [no])) = some (3, 1, 0, 0) ∧
    control (step { at' 3 [no] with attempts := 2 }) = some (9, 0, 2, 2) := by decide

/-- T9: an acknowledgement on the last permitted attempt. -/
theorem test_s_t_polling_answered :
    (nextOf (step { at' 3 [bytes 0x68 0x3A 0x7C] with attempts := 2 })).map
      (fun t => (t.attempts, t.msb, t.lsb, t.chk, t.st)) = some (3, 0x68, 0x3A, 0x7C, 4) := by decide

/-- T10, T11. -/
theorem test_s_t_read :
    (nextOf (step { at' 4 [yes] with msb := 0x68, lsb := 0x3A, chk := 0x7C })).map (fun t => (t.tWord, t.st)) =
      some (0x683A, 5) ∧
    control (step { at' 4 [yes] with msb := 0x68, lsb := 0x3A, chk := 0x7D }) = some (9, 0, 3, 3) ∧
    onBus (step { at' 4 [yes] with msb := 0x68, lsb := 0x3A, chk := 0x7D }) = some [] := by decide +kernel

/-- T12: the word is written although the humidity trigger is refused. -/
theorem test_s_t_read_trigger_refused :
    control (step { at' 4 [no] with msb := 0x68, lsb := 0x3A, chk := 0x7C }) = some (9, 0, 1, 4) ∧
    (nextOf (step { at' 4 [no] with msb := 0x68, lsb := 0x3A, chk := 0x7C })).map State.tWord = some 0x683A := by decide +kernel

/-- T13. -/
theorem test_s_rh_triggered : control (step (at' 5 [])) = some (6, 1, 0, 0) := by decide

/-- T14, T15. -/
theorem test_s_rh_polling :
    control (step { at' 6 [no] with attempts := 1 }) = some (9, 0, 2, 5) ∧
    (nextOf (step (at' 6 [bytes 0x4E 0x85 0x6B]))).map (fun t => (t.attempts, t.msb, t.lsb, t.chk, t.st)) =
      some (1, 0x4E, 0x85, 0x6B, 7) := by decide

/-- T16, T17. -/
theorem test_s_rh_read :
    (nextOf (step { at' 7 [] with msb := 0x4E, lsb := 0x85, chk := 0x6B })).map (fun t => (t.rhWord, t.st)) =
      some (0x4E85, 8) ∧
    control (step { at' 7 [] with msb := 0x4E, lsb := 0x85, chk := 0x6A }) = some (9, 0, 3, 6) := by decide +kernel

/-- T18, T20. -/
theorem test_s_done :
    emitted (step { at' 8 [] with tWord := 0x683A, rhWord := 0x4E85 }) = some [.reading 0 0x683A 0x4E85] ∧
    (nextOf (step (at' 8 []))).map (fun t => (t.idx, t.wait, t.st)) = some (1, 3, 0) ∧
    (nextOf (step { at' 8 [] with cfg := cfg9 })).map State.idx = some 0 := by decide

/-- T19. -/
theorem test_s_failed :
    emitted (step { at' 9 [] with ch := 1, idx := 1, errCode := 1 }) = some [.fail 1 1 0] ∧
    (nextOf (step { at' 9 [] with ch := 1, idx := 1, errCode := 1 })).map (fun t => (t.idx, t.wait, t.st)) =
      some (0, 3, 0) := by decide

/-- T21. -/
theorem test_illegal_state :
    faultOf (step (at' 10 [])) = some .illegalState ∧
    faultOf (step { at' 15 [] with wait := 7 }) = some .illegalState := by decide

/-- X2: the first trace line after reset, in the words of 30_encoding.md R92. -/
theorem test_first_trace_line :
    (trace 1 { State.resetWith cfg 0xA5 with answers := [yes] }).map (traceWords cfg) =
      [["S_IDLE", "->", "MUXW", "0", "ACK", "=>", "CYCLE_START", "0"]] := by decide

/-- The lines of T9 and T12. -/
theorem test_trace_of_poll_and_failure :
    (trace 1 (at' 3 [bytes 0x68 0x3A 0x7C])).map (traceWords cfg) =
      [["S_T_POLLING", "->", "POLL", "ACK", "68", "3A", "7C"]] ∧
    (trace 1 { at' 9 [] with errCode := 2, errPhase := 2 }).map (traceWords cfg) =
      [["S_FAILED", "=>", "FAIL", "0", "Timeout", "POLL_T"]] := by decide

/-! ### Witnesses: states and operands that meet the premises of each statement, clause by clause -/

theorem witness_decode_of_encode :
    cfg.wf = true ∧ (Instr.tick 9).wf = true ∧ (Instr.tick 0).wf = true ∧
    (Instr.crcCheck 0xFF 0x00 0xFF).wf = true ∧ (Instr.faultIllegalState11 7).wf = true := by decide

theorem witness_decoded_bytes :
    decode cfg [0x81, 0x68, 0x3A, 0x7C] = .ok .poll ∧ decode cfg [0xE0, 0x80] = .ok .muxw7 ∧
    decode cfg [0b10010] = .ok (.tick 9) := ⟨rfl, rfl, rfl⟩

/-- Records of a write to the multiplexer, to the sensor, to neither, and of the forms no operation has. -/
theorem witness_bus_record_write :
    cfg.wf = true ∧
    (∃ r : BusRecord, r.dir = .write ∧ r.addr = cfg.muxAddr ∧ r.sent = [muxMask 7]) ∧
    (∃ r : BusRecord, r.dir = .write ∧ r.addr = cfg.muxAddr ∧ r.sent = [0]) ∧
    (∃ r : BusRecord, ∃ b, r.dir = .write ∧ r.addr = cfg.muxAddr ∧ r.sent = [b] ∧ b ≠ 0 ∧
      ∀ ch : Channel, b ≠ muxMask ch) ∧
    (∃ r : BusRecord, r.dir = .write ∧ r.addr = cfg.sensorAddr ∧ r.sent = [cfg.cmdRhHold]) ∧
    (∃ r : BusRecord, ∃ b, r.dir = .write ∧ r.addr = cfg.sensorAddr ∧ r.sent = [b] ∧ b ≠ cfg.cmdTNoHold ∧
      b ≠ cfg.cmdRhNoHold ∧ b ≠ cfg.cmdTHold ∧ b ≠ cfg.cmdRhHold) ∧
    (∃ r : BusRecord, r.dir = .write ∧ r.addr ≠ cfg.muxAddr ∧ r.addr ≠ cfg.sensorAddr) ∧
    (∃ r : BusRecord, r.dir = .write ∧ r.sent.length ≠ 1) :=
  ⟨by decide, ⟨⟨.write, 0x70, [0x80], .ack, [], 0⟩, rfl, rfl, rfl⟩, ⟨⟨.write, 0x70, [0], .ack, [], 0⟩, rfl, rfl, rfl⟩,
    ⟨⟨.write, 0x70, [3], .ack, [], 0⟩, 3, rfl, rfl, rfl, by decide, by decide⟩,
    ⟨⟨.write, 0x40, [0xE5], .ack, [], 0⟩, rfl, rfl, rfl⟩,
    ⟨⟨.write, 0x40, [0xFE], .ack, [], 0⟩, 0xFE, rfl, rfl, rfl, by decide, by decide, by decide, by decide⟩,
    ⟨⟨.write, 0x7F, [0], .ack, [], 0⟩, rfl, by decide, by decide⟩,
    ⟨⟨.write, 0x70, [], .ack, [], 0⟩, rfl, by decide⟩⟩

theorem witness_bus_record_read :
    (∃ r : BusRecord, r.dir = .read ∧ r.addr = cfg.sensorAddr ∧ r.sent = []) ∧
    (∃ r : BusRecord, r.dir = .read ∧ r.addr ≠ cfg.sensorAddr) ∧
    (∃ r : BusRecord, r.dir = .read ∧ r.sent ≠ []) :=
  ⟨⟨⟨.read, 0x40, [], .nack, [], 1⟩, rfl, rfl, rfl⟩, ⟨⟨.read, 0x70, [], .nack, [], 1⟩, rfl, by decide⟩,
    ⟨⟨.read, 0x40, [0], .nack, [], 1⟩, rfl, by decide⟩⟩

/-- The select byte of state 9 with a wait, and presented bytes that do and do not decode. -/
theorem witness_step_runs :
    cfg.wf = true ∧ (at' 9 []).presented = [] ∧
    decode cfg [((at' 9 []).st ++ BitVec.ofBool (decide ((at' 9 []).wait = 0))).setWidth 8] = .ok .sFailed ∧
    ({ at' 0 [] with presented := [0xE0, 0x80] } : State).presented ≠ [] ∧
    decode cfg [0xE0, 0x80] = .ok .muxw7 ∧ decode cfg [0xE0, 0x00] = .ok .muxoff ∧
    decode cfg [0xE0, 0x03] = .error .notABlockOperation :=
  ⟨by decide, rfl, rfl, by decide, rfl, rfl, rfl⟩

theorem witness_step_selection :
    (at' 0 []).cfg.wf = true ∧ (at' 0 []).presented = [] ∧
    (10 ≤ (at' 10 []).st.toNat ∧ 10 ≤ (at' 15 []).st.toNat) ∧
    ((at' 9 []).st.toNat ≤ 9 ∧ 0 < ({ at' 9 [] with wait := 1 } : State).wait) ∧
    ((at' 0 []).st = 0 ∧ (at' 9 []).st = 9 ∧ (at' 9 []).wait = 0) := by decide

theorem witness_placed_row :
    (at' 0 []).cfg.wf = true ∧ decodeTableWord 16 0xE080 = some .muxw7 ∧ decodeTableWord 16 0xE000 = some .muxoff ∧
    decodeTableWord 5 0b10010 = some (.tick 9) ∧ decodeTableWord 5 0b10011 = some .sFailed := by decide

theorem witness_tick : ({ at' 1 [] with wait := 1 } : State).wait = 0 + 1 ∧ (at' 1 []).wait = 0 := by decide

theorem witness_idle :
    (at' 0 [yes]).cfg.channels[(at' 0 [yes]).idx]? = some 0 ∧
    ({ at' 0 [] with cfg := cfg9 } : State).cfg.channels[0]? = some 3 ∧ (3 : Channel) = BitVec.ofNat 3 3 ∧
    muxAccepts (at' 0 [yes]) ∧ ¬ muxAccepts (at' 0 [no]) ∧ ¬ muxAccepts (at' 0 [noData]) := by
  unfold muxAccepts; decide

/-- A trigger accepted, and refused on the address byte, on the command byte, and for want of a segment. -/
theorem witness_sensor_accepts :
    (at' 1 [yes]).cfg.muxAddr ≠ (at' 1 [yes]).cfg.sensorAddr ∧ sensorAccepts (at' 1 [yes]) ∧
    ¬ sensorAccepts (at' 1 [no]) ∧ ¬ sensorAccepts (at' 1 [noData]) ∧
    ¬ sensorAccepts { at' 1 [yes] with muxreg := 0 } := by
  unfold sensorAccepts; decide

/-- A poll answered, refused with attempts left, and refused on the last permitted attempt, of each kind. -/
theorem witness_polling :
    (at' 3 [yes]).cfg.muxAddr ≠ (at' 3 [yes]).cfg.sensorAddr ∧ sensorAnswers (at' 3 [yes]) ∧
    ¬ sensorAnswers (at' 3 [no]) ∧ (at' 3 [no]).attempts + 1 ≠ (at' 3 [no]).cfg.pollMaxT ∧
    ({ at' 3 [no] with attempts := 2 } : State).attempts + 1 = (at' 3 [no]).cfg.pollMaxT ∧
    (at' 6 [no]).attempts + 1 ≠ (at' 6 [no]).cfg.pollMaxRh ∧
    ({ at' 6 [no] with attempts := 1 } : State).attempts + 1 = (at' 6 [no]).cfg.pollMaxRh := by
  unfold sensorAnswers; decide

/-- A valid and an invalid frame, with the humidity trigger accepted and refused. -/
theorem witness_read_steps :
    crc8 [0x68, 0x3A] = 0x7C ∧ crc8 [0x68, 0x3A] ≠ 0x7D ∧
    sensorAccepts { at' 4 [yes] with msb := 0x68, lsb := 0x3A, chk := 0x7C } ∧
    ¬ sensorAccepts { at' 4 [no] with msb := 0x68, lsb := 0x3A, chk := 0x7C } := by
  unfold sensorAccepts; decide +kernel

theorem witness_muxw :
    (Instr.muxw7, (0x80 : Byte)) ∈ [(Instr.muxw0, (0x01 : Byte)), (.muxw1, 0x02), (.muxw2, 0x04), (.muxw3, 0x08),
      (.muxw4, 0x10), (.muxw5, 0x20), (.muxw6, 0x40), (.muxw7, 0x80)] ∧
    muxAccepts (at' 0 [yes]) ∧ ¬ muxAccepts (at' 0 [noData]) := by
  unfold muxAccepts; decide

/-- Frames that pass and fail, in the first and last measuring state of each kind. -/
theorem witness_crc_check :
    crc8 [0x00, 0x00] = 0x00 ∧ crc8 [0xFF, 0xFF] ≠ 0xFF ∧
    2 ≤ (at' 2 []).st.toNat ∧ (at' 4 []).st.toNat ≤ 4 ∧ 5 ≤ (at' 5 []).st.toNat ∧ (at' 7 []).st.toNat ≤ 7 := by
  decide +kernel

/-- Two writes of channel 7, the first refused, the second acknowledged. -/
theorem witness_repeated_muxw :
    ∃ t r, repeatExec (Instr.muxw 7) (1 + 1) (at' 0 [no, yes]) = .next t ∧ t.busHist.getLast? = some r ∧
      r.resp = .ack := ⟨_, _, rfl, rfl, rfl⟩

theorem witness_unreached_sensor :
    (at' 1 [yes]).cfg.muxAddr ≠ (at' 1 [yes]).cfg.sensorAddr ∧
    ({ at' 1 [yes] with muxreg := 0 } : State).muxreg = 0 ∧
    ({ at' 1 [yes] with muxreg := 0x80 } : State).muxreg = muxMask 7 ∧
    (BusRecord.mk .read 0x40 [] .nack [] 0x80).addr = cfg.sensorAddr := by decide

/-- 10_state.md R31, 20_memory.md R51: one segment, none, a collision of two. -/
theorem test_segments :
    devicesReached cfg 0x80 0x40 = [.sensor 7] ∧ devicesReached cfg 0x00 0x40 = [] ∧
    devicesReached cfg 0x05 0x40 = [.sensor 0, .sensor 2] ∧ devicesReached cfg 0x00 0x70 = [.multiplexer] ∧
    segmentConnected 0x05 1 = false := by decide

/-- A one-byte write: all acknowledged; refused at the address byte; refused at the last byte. -/
theorem witness_write_frame :
    [true, true].length = [(0x01 : Byte)].length + 1 ∧ (∀ x ∈ [true, true], x = true) ∧
    (0 < [false, true].length ∧ (∀ x ∈ [false, true].take 0, x = true) ∧ [false, true][0]? = some false ∧
      [addrByte 0x70 .write, 0x01][0]? = some 0xE0) ∧
    (1 < [true, false].length ∧ (∀ x ∈ [true, false].take 1, x = true) ∧ [true, false][1]? = some false ∧
      [addrByte 0x70 .write, 0x01][1]? = some 0x01) := by decide

/-- A step that fails and a step that does not. -/
theorem witness_errors_are_legal_pairs :
    (∃ t, exec .sChSelected (at' 1 [no]) = .next t ∧ t.errCode ≠ (at' 1 [no]).errCode) ∧
    (∃ t, exec .sChSelected (at' 1 [yes]) = .next t) := ⟨⟨_, rfl, by decide⟩, ⟨_, rfl⟩⟩

theorem witness_crc_is_linear : frameValid 0x683A7C = true := by decide +kernel

/-- Error patterns of one bit (the first on the wire), of two, of three, and bursts at both ends of the frame. -/
theorem witness_crc_detects_errors :
    frameValid 0x683A7C = true ∧ (0x800000 : BitVec 24) ≠ 0 ∧ weight 24 0x800000 ≤ 2 ∧ weight 24 0x800001 ≤ 2 ∧
    weight 24 0x800003 % 2 = 1 ∧ 0 ≤ 16 ∧ (0xFF0000 : BitVec 24) = (0xFF : BitVec 8).setWidth 24 <<< 16 ∧
    (0x0000FF : BitVec 24) = (0xFF : BitVec 8).setWidth 24 <<< 0 := by decide +kernel

/-- The thresholds themselves are masked codes, and two codes in order. -/
theorem witness_humidity_thresholds :
    (3144 : Word) &&& 3 = 0 ∧ (3148 : Word) &&& 3 = 0 ∧ (55572 : Word) &&& 3 = 0 ∧ (55576 : Word) &&& 3 = 0 ∧
    (0x0000 : Word).toNat < (0xFFFF : Word).toNat := by decide

theorem witness_temperature_resolution : (0xFFF8 : Word).toNat + 4 < 65536 := by decide

theorem witness_sink :
    physicalReading (.reading 3 0x8000 0x8000) = some ⟨tempC 0x8000, humidityPct 0x8000, 3⟩ ∧
    (Event.cycleStart 7 = .cycleStart 7) ∧ (Event.fail 7 3 6 = .fail 7 3 6) := ⟨rfl, rfl, rfl⟩

theorem witness_first_step : cfg.wf = true ∧ cfg.channels[0]? = some 0 ∧ cfg9.channels[0]? = some 3 := by decide

/-- A state in the middle of an iteration that meets the invariant. -/
theorem witness_invariant : BlockInv (at' 3 [no]) where
  free := ⟨by decide, rfl⟩
  legalSt := by decide
  idxInRange := by decide
  waitBound := by decide
  attemptsBound := by decide
  budgetT := by decide
  budgetRh := by decide
  channel := by decide
  oneHot := fun _ => rfl
  legalError := fun h => absurd h (by decide)

theorem witness_invariant_steps : ∃ t, step (at' 3 [no]) = .next t := ⟨_, rfl⟩

/-- A failing state that meets the invariant. -/
theorem witness_invariant_failed : BlockInv { at' 9 [] with errCode := 3, errPhase := 6 } where
  free := ⟨by decide, rfl⟩
  legalSt := by decide
  idxInRange := by decide
  waitBound := by decide
  attemptsBound := by decide
  budgetT := by decide
  budgetRh := by decide
  channel := by decide
  oneHot := fun h => absurd h.2 (by decide)
  legalError := fun _ => ⟨.checksumMismatch, .readRh, rfl, rfl, rfl⟩

theorem witness_transitions :
    (∃ t, step (at' 2 []) = .next t) ∧ (∃ t, step { at' 2 [] with wait := 1 } = .next t) ∧
    (at' 2 []).wait = 0 ∧ 0 < ({ at' 2 [] with wait := 1 } : State).wait ∧
    (at' 2 []).cfg.wf = true ∧ (at' 2 []).presented = [] :=
  ⟨⟨_, rfl⟩, ⟨_, rfl⟩, by decide, by decide, by decide, rfl⟩

/-- A step with a transaction and an event. -/
theorem witness_steps_issue :
    ∃ t, exec .sIdle (at' 0 [yes]) = .next t ∧ t.busHist.length = 1 ∧ t.sinkHist.length = 1 :=
  ⟨_, rfl, rfl, rfl⟩

/-- Steps that write each register. -/
theorem witness_registers_written :
    (∃ t, exec .sDone (at' 8 []) = .next t ∧ t.idx ≠ (at' 8 []).idx) ∧
    (∃ t, exec .sIdle { at' 0 [yes] with idx := 1 } = .next t ∧ t.ch ≠ (at' 0 [yes]).ch ∧
      t.muxreg ≠ (at' 0 [yes]).muxreg) ∧
    (∃ t, exec .sTPolling (at' 3 [bytes 0x68 0x3A 0x7C]) = .next t ∧ t.attempts ≠ (at' 3 []).attempts ∧
      t.msb ≠ (at' 3 []).msb) ∧
    (∃ t, exec .muxw7 (at' 3 [no]) = .next t ∧ t.st ≠ (at' 3 []).st ∧ t.errCode ≠ (at' 3 []).errCode) ∧
    (∃ t, exec (.tick 1) { at' 1 [] with wait := 1 } = .next t ∧ t.wait ≠ 1) :=
  ⟨⟨_, rfl, by decide⟩, ⟨_, rfl, by decide, by decide⟩, ⟨_, rfl, by decide, by decide⟩,
    ⟨_, rfl, by decide, by decide⟩, ⟨_, rfl, by decide⟩⟩

/-- Steps that store a word and hand it on. -/
theorem witness_words_stored :
    (∃ t, exec .sTRead { at' 4 [yes] with msb := 0x68, lsb := 0x3A, chk := 0x7C } = .next t ∧
      t.tWord ≠ (at' 4 []).tWord) ∧
    (∃ t, exec .sRhRead { at' 7 [] with msb := 0x4E, lsb := 0x85, chk := 0x6B } = .next t ∧
      t.rhWord ≠ (at' 7 []).rhWord) ∧
    (∃ t, exec .sDone { at' 8 [] with sinkHist := [.reading 0 0 0] } = .next t ∧
      Event.reading 0 0 0 ∈ t.sinkHist.drop [Event.reading 0 0 0].length) :=
  ⟨⟨_, rfl, by decide +kernel⟩, ⟨_, rfl, by decide +kernel⟩, ⟨_, rfl, by decide⟩⟩

/-- A poll issued from a state that meets the invariant. -/
theorem witness_sensor_traffic :
    ∃ t r, step (at' 3 [no]) = .next t ∧ r ∈ t.busHist.drop (at' 3 [no]).busHist.length ∧
      r.addr = (at' 3 [no]).cfg.sensorAddr :=
  ⟨_, _, rfl, List.mem_singleton_self _, rfl⟩

/-- Polling on channel 0, after its select and its trigger. -/
def polling : State :=
  { at' 3 [bytes 0x68 0x3A 0x7C] with
    busHist := [⟨.write, 0x70, [0x01], .ack, [], 0xA5⟩, ⟨.write, 0x40, [0xF3], .ack, [], 0x01⟩] }

theorem witness_bus_history_safe : busHistorySafe polling.cfg polling.busHist ∧ ∃ t, step polling = .next t := by
  refine ⟨fun r hr => ?_, ⟨_, rfl⟩⟩
  simp only [polling, List.mem_cons, List.not_mem_nil, or_false] at hr
  rcases hr with rfl | rfl
  · exact ⟨by decide, fun h => absurd h (by decide)⟩
  · exact ⟨by decide, fun _ => ⟨0, by decide, rfl, rfl⟩⟩

theorem witness_bus_history_invariant : BlockInv polling where
  free := ⟨by decide, rfl⟩
  legalSt := by decide
  idxInRange := by decide
  waitBound := by decide
  attemptsBound := by decide
  budgetT := by decide
  budgetRh := by decide
  channel := by decide
  oneHot := fun _ => rfl
  legalError := fun h => absurd h (by decide)

/-- The captured word of channel 0 in `T_READ`, with the read that returned it. -/
def reading : State :=
  { at' 4 [yes] with
    msb := 0x68, lsb := 0x3A, chk := 0x7C
    busHist := [⟨.read, 0x40, [], .ack, [0x68, 0x3A, 0x7C], 0x01⟩] }

theorem witness_readings_verified : Verified reading ∧ BlockInv reading ∧ ∃ t, step reading = .next t := by
  refine ⟨⟨fun _ => ⟨_, List.mem_singleton_self _, rfl, rfl, rfl, rfl, rfl⟩, fun h => absurd h.1 (by decide),
    fun h => absurd h (by decide), fun _ _ _ h => absurd h (by simp [reading, at', State.resetWith])⟩, ?_, ⟨_, rfl⟩⟩
  exact ⟨⟨by decide, rfl⟩, by decide, by decide, by decide, by decide, by decide, by decide, by decide, fun _ => rfl,
    fun h => absurd h (by decide)⟩

/-- Two states that differ in every register that is not valid at `IDLE`, and step. -/
theorem witness_agree_where_valid :
    AgreeWhereValid (State.resetWith cfg 0xA5)
      { State.resetWith cfg 0x00 with
        ch := 7, attempts := 9, msb := 1, lsb := 2, chk := 3, tWord := 4, rhWord := 5, errCode := 3, errPhase := 7 } :=
  ⟨rfl, rfl, rfl, rfl, rfl, rfl, rfl, rfl, rfl, rfl, fun h => absurd rfl h, fun h => absurd h (by decide),
    fun h => absurd h (by decide), fun h => absurd h.1 (by decide), fun h => absurd h (by decide),
    fun h => absurd h (by decide), fun h => absurd h.1 (by decide)⟩

theorem witness_agree_steps :
    cfg.wf = true ∧ ∃ t, step { State.resetWith cfg 0xA5 with answers := [yes] } = .next t := ⟨by decide, ⟨_, rfl⟩⟩

theorem witness_delay :
    (at' 9 []).cfg.wf = true ∧ (at' 9 []).presented = [] ∧ (at' 9 []).st.toNat ≤ 9 ∧
    ({ at' 9 [] with wait := 3 } : State).wait = 3 := by decide

/-- The start of an iteration on the last channel of the list. -/
theorem witness_iteration :
    ({ at' 0 [yes] with idx := 1 } : State).cfg.wf = true ∧ ({ at' 0 [yes] with idx := 1 } : State).presented = [] ∧
    ({ at' 0 [yes] with idx := 1 } : State).st = 0 ∧ ({ at' 0 [yes] with idx := 1 } : State).wait = 0 ∧
    ({ at' 0 [yes] with idx := 1 } : State).cfg.channels[1]? = some 1 ∧
    ¬ muxAccepts { at' 0 [no] with idx := 1 } := by
  unfold muxAccepts; decide

/-- The oracle script of program P1, with one refused temperature poll and no refused humidity poll. -/
theorem witness_well_behaved :
    WellBehaved cfg 0x683A 0x4E85 2 1 [] [yes, yes, no, bytes 0x68 0x3A 0x7C, yes, bytes 0x4E 0x85 0x6B] where
  budgets := by decide
  shape := by
    refine ⟨yes, yes, yes, bytes 0x68 0x3A 0x7C, bytes 0x4E 0x85 0x6B, [no], [], rfl, ⟨rfl, rfl⟩, ⟨rfl, rfl⟩,
      ⟨rfl, rfl⟩, rfl, rfl, ?_, ?_, ⟨rfl, by decide, by decide, by decide +kernel⟩,
      ⟨rfl, by decide, by decide, by decide +kernel⟩⟩ <;> decide

/-- The oracle script of program P7. -/
theorem witness_hung_sensor :
    (at' 0 [yes, yes, no, no, no]).answers = yes :: yes :: [no, no, no] ++ [] ∧
    Answer.accepts yes ∧ [no, no, no].length = cfg.pollMaxT ∧ (∀ a ∈ [no, no, no], a.addrAck = false) ∧
    (at' 0 []).cfg.channels[(at' 0 []).idx]? = some 0 := ⟨rfl, ⟨rfl, rfl⟩, rfl, by decide, rfl⟩

theorem witness_stuck_bus :
    (at' 0 [no, no, yes]).idx < (at' 0 []).cfg.channels.length ∧ 2 ≤ (at' 0 [no, no, yes]).answers.length ∧
    (∀ a ∈ (at' 0 [no, no, yes]).answers.take 2, a.addrAck = false) := by decide

/-- The model's own reset state runs its first step, and a row placed after reset. -/
theorem test_reset_runs :
    (nextOf (step State.reset)).isSome = true ∧
    (nextOf (step (State.reset.withFetchWord 16 0xE080))).isSome = true ∧
    (nextOf (step (State.reset.withFetchWord 24 0x683A7C))).isSome = true := by
  refine ⟨?_, by decide, by decide⟩
  have h : step State.reset = exec .sIdle State.reset := by
    unfold step
    rw [show State.reset.cfg.wf = true from Config.build_wf]
    rfl
  rw [h]; rfl

end Sys2Proof.Machine.Tests
end

section
/-! Scope (spec/00_scope.md): which configurations `step` refuses (R8), and what one operation appends to the bus and
sink histories (R13; spec/20_memory.md R65). -/

namespace Sys2Proof

/-! ### The configuration check of R8 -/

theorem positive_eq_false_iff {n : Nat} : positive n = false ↔ n < 1 := by
  cases n <;> simp [positive]

theorem Config.channelsInRange_eq_false_iff {c : Config} :
    c.channelsInRange = false ↔ ∃ n ∈ c.channels, 7 < n := by
  simp only [Config.channelsInRange, List.all_eq_false, decide_eq_true_eq, Nat.not_lt]
  rfl

theorem Config.commandsDistinct_eq_false_iff {c : Config} :
    c.commandsDistinct = false ↔
      (c.cmdTNoHold = c.cmdRhNoHold ∨ c.cmdTNoHold = c.cmdTHold ∨ c.cmdTNoHold = c.cmdRhHold ∨
       c.cmdRhNoHold = c.cmdTHold ∨ c.cmdRhNoHold = c.cmdRhHold ∨ c.cmdTHold = c.cmdRhHold) := by
  simp only [Config.commandsDistinct, Bool.and_eq_false_iff, bne_eq_false_iff_eq, or_assoc]

/-- The check fails exactly when one of its six parts does. -/
theorem Config.wf_eq_false_iff {c : Config} :
    c.wf = false ↔
      (c.muxAddr = c.sensorAddr ∨ c.channelsInRange = false ∨ c.channels = [] ∨
       positive c.pollMaxT = false ∨ positive c.pollMaxRh = false ∨ c.commandsDistinct = false) := by
  simp only [Config.wf, Bool.and_eq_false_iff, bne_eq_false_iff_eq, Bool.not_eq_false', List.isEmpty_iff, or_assoc]

end Sys2Proof

namespace Sys2Proof.Machine

/-! ### Who refuses what -/

/-- The only operations without a meaning are the hold-master triggers. -/
theorem exec_refused {i : Instr} {s : State} {r : Refusal} (h : exec i s = .refused r) :
    (i = .trigTHold ∨ i = .trigRhHold) ∧ r = .holdMasterTrigger := by
  cases i <;> cases h
  case trigTHold => exact ⟨.inl rfl, rfl⟩
  case trigRhHold => exact ⟨.inr rfl, rfl⟩

/-- `fetch` refuses `MUXOFF` and bytes that do not decode. -/
theorem fetch_error {s : State} {r : Refusal} (h : fetch s = .error r) :
    r = .muxoffGiven ∨ ∃ e, r = .undecodable e := by
  unfold fetch at h
  split at h
  · split at h <;> cases h
    exact .inl rfl
  · cases h
    exact .inr ⟨_, rfl⟩

/-- Past the check nothing refuses the configuration. -/
theorem step_refused_illFormed_iff {s : State} :
    step s = .refused .illFormedConfiguration ↔ s.cfg.wf = false := by
  unfold step
  cases s.cfg.wf with
  | false => simp
  | true =>
    cases hf : fetch s with
    | ok i =>
      have hx : exec i s.consume ≠ .refused .illFormedConfiguration := fun h => nomatch (exec_refused h).2
      simpa using hx
    | error r =>
      have hr : r ≠ .illFormedConfiguration := by
        obtain rfl | ⟨e, rfl⟩ := fetch_error hf <;> exact nofun
      simpa using hr

/-- Settles O9: `step` refuses the configuration exactly when the check fails, and the check fails exactly when one of
its parts does. -/
theorem illFormedConfigurationRefused : Obligations.IllFormedConfigurationRefused := by
  intro s
  rw [step_refused_illFormed_iff, Config.wf_eq_false_iff, Config.channelsInRange_eq_false_iff, positive_eq_false_iff,
    positive_eq_false_iff, Config.commandsDistinct_eq_false_iff]

/-! ### What the operations with a bus transaction append to the histories -/

@[simp] theorem State.selectChannel_busHist (s : State) (ch : Channel) :
    (s.selectChannel ch).busHist = s.busHist ++
      [⟨.write, s.cfg.muxAddr, [muxMask ch], s.muxResp (muxMask ch), [], s.muxreg⟩] := by
  unfold State.selectChannel; split <;> rfl

@[simp] theorem State.selectChannel_sinkHist (s : State) (ch : Channel) :
    (s.selectChannel ch).sinkHist = s.sinkHist := by
  unfold State.selectChannel; split <;> rfl

@[simp] theorem State.selectStep_busHist (s : State) :
    s.selectStep.busHist = s.busHist ++
      [⟨.write, s.cfg.muxAddr, [muxMask s.ch], s.muxResp (muxMask s.ch), [], s.muxreg⟩] := by
  unfold State.selectStep; split <;> rfl

@[simp] theorem State.selectStep_sinkHist (s : State) : s.selectStep.sinkHist = s.sinkHist := by
  unfold State.selectStep; split <;> rfl

@[simp] theorem State.triggerOrFail_busHist (s : State) (k : Kind) :
    (s.triggerOrFail k).busHist = s.busHist ++
      [⟨.write, s.cfg.sensorAddr, [triggerCmd s.cfg k], s.trigResp k, [], s.muxreg⟩] := by
  unfold State.triggerOrFail; split <;> rfl

@[simp] theorem State.triggerOrFail_sinkHist (s : State) (k : Kind) :
    (s.triggerOrFail k).sinkHist = s.sinkHist := by
  unfold State.triggerOrFail; split <;> rfl

@[simp] theorem State.storeAndTriggerRh_busHist (s : State) :
    s.storeAndTriggerRh.busHist = s.busHist ++
      [⟨.write, s.cfg.sensorAddr, [triggerCmd s.cfg .humidity], s.trigResp .humidity, [], s.muxreg⟩] := by
  unfold State.storeAndTriggerRh; split <;> rfl

@[simp] theorem State.storeAndTriggerRh_sinkHist (s : State) : s.storeAndTriggerRh.sinkHist = s.sinkHist := by
  unfold State.storeAndTriggerRh; split <;> rfl

/-- A polling step issues the one poll, however it ends. -/
@[simp] theorem State.pollingStep_busHist (s : State) (k : Kind) (st : BitVec 4) :
    (s.pollingStep k st).busHist = s.pollOnce.busHist := by
  unfold State.pollingStep; split
  · rfl
  · split <;> rfl

@[simp] theorem State.pollingStep_sinkHist (s : State) (k : Kind) (st : BitVec 4) :
    (s.pollingStep k st).sinkHist = s.sinkHist := by
  unfold State.pollingStep; split
  · exact s.pollOnce_sinkHist
  · split <;> exact s.pollOnce_sinkHist

/-! ### At most one transaction and one event -/

/-- `t` has the histories of `s` with at most one record and at most one event appended. -/
def AppendsAtMostOne (s t : State) : Prop :=
  ∃ rs es, t.busHist = s.busHist ++ rs ∧ rs.length ≤ 1 ∧ t.sinkHist = s.sinkHist ++ es ∧ es.length ≤ 1

section
variable {s t : State}

theorem AppendsAtMostOne.of_nothing (hb : t.busHist = s.busHist) (hs : t.sinkHist = s.sinkHist) :
    AppendsAtMostOne s t :=
  ⟨[], [], by simp [hb], by simp, by simp [hs], by simp⟩

theorem AppendsAtMostOne.of_record {r : BusRecord} (hb : t.busHist = s.busHist ++ [r])
    (hs : t.sinkHist = s.sinkHist) : AppendsAtMostOne s t :=
  ⟨[r], [], hb, Nat.le_refl 1, by simp [hs], by simp⟩

theorem AppendsAtMostOne.of_event {e : Event} (hb : t.busHist = s.busHist)
    (hs : t.sinkHist = s.sinkHist ++ [e]) : AppendsAtMostOne s t :=
  ⟨[], [e], by simp [hb], by simp, hs, Nat.le_refl 1⟩

theorem AppendsAtMostOne.of_record_event {r : BusRecord} {e : Event} (hb : t.busHist = s.busHist ++ [r])
    (hs : t.sinkHist = s.sinkHist ++ [e]) : AppendsAtMostOne s t :=
  ⟨[r], [e], hb, Nat.le_refl 1, hs, Nat.le_refl 1⟩

end

/-- A polling step appends its one poll and no event. -/
theorem State.pollingStep_appendsAtMostOne (s : State) (k : Kind) (st : BitVec 4) :
    AppendsAtMostOne s (s.pollingStep k st) :=
  .of_record ((s.pollingStep_busHist k st).trans s.pollOnce_busHist) (s.pollingStep_sinkHist k st)

/-- Every operation that answers appends at most one record and one event: `S_IDLE` alone may append both. -/
theorem exec_appendsAtMostOne {i : Instr} {s t : State} (h : exec i s = .next t) : AppendsAtMostOne s t := by
  cases i with
  | muxw0 | muxw1 | muxw2 | muxw3 | muxw4 | muxw5 | muxw6 | muxw7 =>
    cases h; exact .of_record (s.selectChannel_busHist _) (s.selectChannel_sinkHist _)
  | muxoff => cases h; exact .of_record (s.muxWrite_busHist _) (s.muxWrite_sinkHist _)
  | trigT | trigRh => cases h; exact .of_record (s.triggerOrFail_busHist _) (s.triggerOrFail_sinkHist _)
  | poll => cases h; exact .of_record s.pollOnce_busHist s.pollOnce_sinkHist
  | crcCheck m l k => cases h; split <;> exact .of_nothing rfl rfl
  | tick | sTTriggered | sRhTriggered => cases h; exact .of_nothing rfl rfl
  | sIdle =>
    cases h
    exact .of_record_event s.startIteration.selectStep_busHist
      (s.startIteration.selectStep_sinkHist.trans s.startIteration_sinkHist)
  | sChSelected => cases h; split <;> exact .of_record (s.trigger_busHist _) rfl
  | sTPolling | sRhPolling => cases h; exact s.pollingStep_appendsAtMostOne _ _
  | sTRead =>
    cases h; split
    · exact .of_record s.storeAndTriggerRh_busHist s.storeAndTriggerRh_sinkHist
    · exact .of_nothing rfl rfl
  | sRhRead => cases h; split <;> exact .of_nothing rfl rfl
  | sDone | sFailed => cases h; exact .of_event rfl rfl
  | trigTHold | trigRhHold | faultIllegalState101 | faultIllegalState11 => cases h

/-- Settles O47, operation by operation. -/
theorem stepsIssueAtMostOne : Obligations.StepsIssueAtMostOne :=
  fun _ _ _ h => exec_appendsAtMostOne h

end Sys2Proof.Machine
end

section
/-! The block's invariant (spec/10_state.md R20 to R22, R37; spec/00_scope.md R9; spec/44_acquisition.md R210): it holds
after reset and every step keeps it. Its counters (`Bounded`) do not speak of `st`; the rest is told apart by the three
kinds of `st`: `IDLE`, a state of the iteration, `FAILED`. -/

namespace Sys2Proof.Machine

/-! ### The states of the iteration -/

/-- The triggered state of a kind (10_state.md R21, R23). -/
def triggeredSt : Kind → BitVec 4
  | .temperature => St.tTriggered
  | .humidity => St.rhTriggered

/-- The polling state of a kind (R21, R23). -/
def pollingSt : Kind → BitVec 4
  | .temperature => St.tPolling
  | .humidity => St.rhPolling

/-- The read state of a kind (R21, R23). -/
def readSt : Kind → BitVec 4
  | .temperature => St.tRead
  | .humidity => St.rhRead

/-- The states of the iteration in which no budget is being spent. -/
def unpolledStates : List (BitVec 4) :=
  [St.chSelected, St.tTriggered, St.tRead, St.rhTriggered, St.rhRead, St.done]

theorem inIteration_of_unpolled {x : BitVec 4} (h : x ∈ unpolledStates) : inIteration x := by
  revert x
  unfold inIteration
  decide

theorem pollingSt_not_unpolled (k : Kind) : pollingSt k ∉ unpolledStates := by cases k <;> decide

theorem readSt_unpolled (k : Kind) : readSt k ∈ unpolledStates := by cases k <;> decide

theorem inIteration_pollingSt (k : Kind) : inIteration (pollingSt k) := by
  cases k <;> exact ⟨by decide, by decide⟩

theorem pollingSt_injective {k k' : Kind} (h : pollingSt k = pollingSt k') : k = k' := by
  cases k <;> cases k' <;> revert h <;> decide

theorem not_inIteration_idle : ¬ inIteration St.idle := fun h => absurd h.1 (by decide)

theorem not_inIteration_failed : ¬ inIteration St.failed := fun h => absurd h.2 (by decide)

theorem inIteration_ne_idle {x : BitVec 4} (h : inIteration x) : x ≠ St.idle :=
  fun e => not_inIteration_idle (e ▸ h)

theorem inIteration_ne_failed {x : BitVec 4} (h : inIteration x) : x ≠ St.failed :=
  fun e => not_inIteration_failed (e ▸ h)

/-! ### The bounds of 00_scope.md R9 -/

theorem pollInterval_le_maxWait (c : Config) : c.pollInterval ≤ maxWait c := Nat.le_max_left ..

theorem settle_le_maxWait (c : Config) : c.settle ≤ maxWait c :=
  (Nat.le_max_left ..).trans (Nat.le_max_right ..)

theorem channelDelay_le_maxWait (c : Config) : c.channelDelay ≤ maxWait c :=
  (Nat.le_max_right ..).trans (Nat.le_max_right ..)

theorem pollMax_le_maxAttempts (c : Config) : ∀ k, pollMax c k ≤ maxAttempts c
  | .temperature => Nat.le_max_left ..
  | .humidity => Nat.le_max_right ..

/-! ### What a well-formed configuration has -/

theorem channels_length_pos {c : Config} (h : c.wf = true) : 0 < c.channels.length := by
  have hne : c.channels ≠ [] := fun e => by
    have hf : c.wf = false := Config.wf_eq_false_iff.mpr (.inr (.inr (.inl e)))
    simp [h] at hf
  exact List.length_pos_iff.mpr hne

theorem pollMax_pos {c : Config} (h : c.wf = true) (k : Kind) : 0 < pollMax c k := by
  by_contra hk
  have hp : positive (pollMax c k) = false := positive_eq_false_iff.mpr (by omega)
  have hf : c.wf = false := Config.wf_eq_false_iff.mpr (by cases k <;> simp [← hp, pollMax])
  simp [h] at hf

/-! ### The part of the invariant that does not speak of `st` -/

/-- The counters are within their bounds, and the block runs its own steps. -/
structure Bounded (s : State) : Prop where
  free : s.Free
  idxInRange : s.idx < s.cfg.channels.length
  waitBound : s.wait ≤ maxWait s.cfg
  attemptsBound : s.attempts ≤ maxAttempts s.cfg

section
variable {s : State}

theorem BlockInv.bounded (h : BlockInv s) : Bounded s :=
  ⟨h.free, h.idxInRange, h.waitBound, h.attemptsBound⟩

theorem BlockInv.budget (h : BlockInv s) {k : Kind} (hs : s.st = pollingSt k) : s.attempts < pollMax s.cfg k := by
  cases k with
  | temperature => exact h.budgetT hs
  | humidity => exact h.budgetRh hs

/-- At `IDLE` only the counters are constrained. -/
theorem Bounded.blockInv_of_idle (h : Bounded s) (hs : s.st = St.idle) : BlockInv s where
  free := h.free
  legalSt := by rw [hs]; decide
  idxInRange := h.idxInRange
  waitBound := h.waitBound
  attemptsBound := h.attemptsBound
  budgetT e := absurd (hs.symm.trans e) (by decide)
  budgetRh e := absurd (hs.symm.trans e) (by decide)
  channel e := absurd hs e
  oneHot e := absurd (hs ▸ e) not_inIteration_idle
  legalError e := absurd (hs.symm.trans e) (by decide)

/-- In `FAILED`: the channel, and a legal error pair. -/
theorem Bounded.blockInv_of_failed (h : Bounded s) (hs : s.st = St.failed) (hch : s.ch = channelAt s.cfg s.idx)
    (herr : ∃ c p, legalPair c p = true ∧ s.errCode = c.bits ∧ s.errPhase = p.bits) : BlockInv s where
  free := h.free
  legalSt := by rw [hs]; decide
  idxInRange := h.idxInRange
  waitBound := h.waitBound
  attemptsBound := h.attemptsBound
  budgetT e := absurd (hs.symm.trans e) (by decide)
  budgetRh e := absurd (hs.symm.trans e) (by decide)
  channel _ := hch
  oneHot e := absurd (hs ▸ e) not_inIteration_failed
  legalError _ := herr

/-- In a state of the iteration: the channel, its mask in `MUXREG`, and, while polling, an unspent budget. -/
theorem Bounded.blockInv_of_inIteration (h : Bounded s) (hs : inIteration s.st) (hch : s.ch = channelAt s.cfg s.idx)
    (hmux : s.muxreg = muxMask s.ch) (hbudget : ∀ k, s.st = pollingSt k → s.attempts < pollMax s.cfg k) :
    BlockInv s where
  free := h.free
  legalSt := hs.2.trans (by decide)
  idxInRange := h.idxInRange
  waitBound := h.waitBound
  attemptsBound := h.attemptsBound
  budgetT := hbudget .temperature
  budgetRh := hbudget .humidity
  channel _ := hch
  oneHot _ := hmux
  legalError e := absurd e (inIteration_ne_failed hs)

/-- In a state of the iteration that does not poll: the channel, and its mask in `MUXREG`. -/
theorem Bounded.blockInv_of_unpolled (h : Bounded s) (hs : s.st ∈ unpolledStates)
    (hch : s.ch = channelAt s.cfg s.idx) (hmux : s.muxreg = muxMask s.ch) : BlockInv s :=
  h.blockInv_of_inIteration (inIteration_of_unpolled hs) hch hmux
    (fun k e => absurd (e ▸ hs) (pollingSt_not_unpolled k))

/-! ### The shared operations -/

section
variable (h : Bounded s)
include h

theorem Bounded.startIteration : Bounded s.startIteration := { h with }

theorem Bounded.muxWrite (b : Byte) : Bounded (s.muxWrite b) := { h with }

theorem Bounded.trigger (k : Kind) : Bounded (s.trigger k) := { h with }

theorem Bounded.emit (e : Event) : Bounded (s.emit e) := { h with }

theorem Bounded.pollOnce : Bounded s.pollOnce := by
  unfold State.pollOnce
  split <;> exact { h with }

/-- Taking a legal failure (60_exceptions.md R236). -/
theorem Bounded.raiseFail (hch : s.ch = channelAt s.cfg s.idx) {c : ErrCode} {p : Phase}
    (hp : legalPair c p = true) : BlockInv (s.raiseFail c p) :=
  Bounded.blockInv_of_failed { h with waitBound := Nat.zero_le _ } rfl hch ⟨c, p, hp, rfl, rfl⟩

/-- Leaving an iteration, after its event (R200, R201). -/
theorem Bounded.toNextChannel : BlockInv s.toNextChannel :=
  Bounded.blockInv_of_idle
    { h with
      idxInRange := Nat.mod_lt _ (channels_length_pos h.free.1)
      waitBound := channelDelay_le_maxWait _ }
    rfl

/-- The `MUXW` of `S_IDLE` (R192). -/
theorem Bounded.selectStep (hch : s.ch = channelAt s.cfg s.idx) : BlockInv s.selectStep := by
  cases hr : s.muxResp (muxMask s.ch) with
  | ack =>
    rw [State.selectStep_ack hr]
    exact Bounded.blockInv_of_unpolled { h with waitBound := settle_le_maxWait _ }
      (by simp [unpolledStates]) hch (if_pos hr)
  | nack =>
    rw [State.selectStep_nack hr]
    exact (h.muxWrite _).raiseFail hch rfl

end

/-! ### The steps of the iteration -/

section
variable (h : BlockInv s) {t : State}
include h

theorem BlockInv.tick : BlockInv { s with wait := s.wait - 1 } :=
  { h with waitBound := (Nat.sub_le _ _).trans h.waitBound }

/-- In the iteration the channel and its mask stand. -/
theorem BlockInv.selected (hs : inIteration s.st) : s.ch = channelAt s.cfg s.idx ∧ s.muxreg = muxMask s.ch :=
  ⟨h.channel (inIteration_ne_idle hs), h.oneHot hs⟩

/-- `S_CH_SELECTED` (R193). -/
theorem BlockInv.execSChSelected (hs : s.st ∈ unpolledStates) (ht : execSChSelected s = .next t) : BlockInv t := by
  obtain ⟨hch, hmux⟩ := h.selected (inIteration_of_unpolled hs)
  cases ht
  split
  · exact Bounded.blockInv_of_unpolled { h.bounded.trigger .temperature with } (by simp [unpolledStates]) hch hmux
  · exact (h.bounded.trigger _).raiseFail hch rfl

/-- `S_T_TRIGGERED` and `S_RH_TRIGGERED` (R194, R197): a budget is at least 1 (R8), so it is unspent. -/
theorem BlockInv.startPolling (hs : s.st ∈ unpolledStates) (k : Kind) : BlockInv (s.startPolling (pollingSt k)) := by
  obtain ⟨hch, hmux⟩ := h.selected (inIteration_of_unpolled hs)
  exact Bounded.blockInv_of_inIteration
    { h.bounded with waitBound := pollInterval_le_maxWait _, attemptsBound := Nat.zero_le _ }
    (inIteration_pollingSt k) hch hmux (fun k _ => pollMax_pos h.free.1 k)

/-- `S_T_POLLING` and `S_RH_POLLING` (R195, R198): a poll that is not the last permitted one leaves the budget
unspent. -/
theorem BlockInv.pollingStep {k : Kind} (hs : s.st = pollingSt k) : BlockInv (s.pollingStep k (readSt k)) := by
  have hi : inIteration s.st := hs ▸ inIteration_pollingSt k
  obtain ⟨hch, hmux⟩ := h.selected hi
  have hbudget := h.budget hs
  have hb : Bounded { s.pollOnce with attempts := s.attempts + 1 } :=
    { h.bounded.pollOnce with
      attemptsBound := by simpa using Nat.le_trans hbudget (pollMax_le_maxAttempts s.cfg k) }
  cases hr : s.pollResp with
  | ack =>
    rw [State.pollingStep_ack hr]
    exact Bounded.blockInv_of_unpolled { hb with } (readSt_unpolled k) (by simpa using hch) (by simpa using hmux)
  | nack =>
    by_cases hm : s.attempts + 1 = pollMax s.cfg k
    · rw [State.pollingStep_timeout hr hm]
      exact hb.raiseFail (by simpa using hch) (by cases k <;> rfl)
    · rw [State.pollingStep_again hr hm]
      refine Bounded.blockInv_of_inIteration { hb with waitBound := by simpa using pollInterval_le_maxWait s.cfg }
        (by simpa using hi) (by simpa using hch) (by simpa using hmux) (fun k' e => ?_)
      obtain rfl : k = k' := pollingSt_injective (hs.symm.trans (by simpa using e))
      simp only [State.pollOnce_cfg]
      omega

/-- `S_T_READ` (R196). -/
theorem BlockInv.execSTRead (hs : s.st ∈ unpolledStates) (ht : execSTRead s = .next t) : BlockInv t := by
  obtain ⟨hch, hmux⟩ := h.selected (inIteration_of_unpolled hs)
  cases ht
  split
  · cases hr : s.trigResp .humidity with
    | ack =>
      rw [State.storeAndTriggerRh_ack hr]
      exact Bounded.blockInv_of_unpolled { h.bounded.trigger .humidity with } (by simp [unpolledStates]) hch hmux
    | nack =>
      rw [State.storeAndTriggerRh_nack hr]
      exact Bounded.raiseFail (s := { s.trigger .humidity with tWord := wordOf s.msb s.lsb })
        { h.bounded.trigger .humidity with } hch rfl
  · exact h.bounded.raiseFail hch rfl

/-- `S_RH_READ` (R199). -/
theorem BlockInv.execSRhRead (hs : s.st ∈ unpolledStates) (ht : execSRhRead s = .next t) : BlockInv t := by
  obtain ⟨hch, hmux⟩ := h.selected (inIteration_of_unpolled hs)
  cases ht
  split
  · exact Bounded.blockInv_of_unpolled { h.bounded with } (by simp [unpolledStates]) hch hmux
  · exact h.bounded.raiseFail hch rfl

end

end

/-! ### The invariant at reset and after a step -/

/-- Settles O44, by the step that runs. -/
theorem stepKeepsTheInvariant : Obligations.StepKeepsTheInvariant := by
  intro s t h ht
  obtain ⟨-, hx⟩ | ⟨-, -, hx⟩ | ⟨-, hx⟩ := step_cases h.free.1 h.free.2
  · cases hx.symm.trans ht
  · cases hx.symm.trans ht
    exact h.tick
  obtain ⟨hs, hx⟩ | ⟨hs, hx⟩ | ⟨hs, hx⟩ | ⟨hs, hx⟩ | ⟨hs, hx⟩ | ⟨hs, hx⟩ | ⟨hs, hx⟩ | ⟨hs, hx⟩ | ⟨hs, hx⟩ | ⟨hs, hx⟩ :=
    hx
  · cases hx.symm.trans ht
    exact h.bounded.startIteration.selectStep rfl
  · exact h.execSChSelected (by rw [hs]; decide) (hx.symm.trans ht)
  · cases hx.symm.trans ht
    exact h.startPolling (by rw [hs]; decide) .temperature
  · cases hx.symm.trans ht
    exact h.pollingStep (k := .temperature) hs
  · exact h.execSTRead (by rw [hs]; decide) (hx.symm.trans ht)
  · cases hx.symm.trans ht
    exact h.startPolling (by rw [hs]; decide) .humidity
  · cases hx.symm.trans ht
    exact h.pollingStep (k := .humidity) hs
  · exact h.execSRhRead (by rw [hs]; decide) (hx.symm.trans ht)
  · cases hx.symm.trans ht
    exact (h.bounded.emit _).toNextChannel
  · cases hx.symm.trans ht
    exact (h.bounded.emit _).toNextChannel

/-- Right after reset nothing but the counters is constrained, and they are zero. -/
theorem blockInv_resetWith {c : Config} (mux : Byte) (h : c.wf = true) : BlockInv (State.resetWith c mux) :=
  Bounded.blockInv_of_idle ⟨⟨h, rfl⟩, channels_length_pos h, Nat.zero_le _, Nat.zero_le _⟩ rfl

/-- Settles O43. -/
theorem resetMeetsTheInvariant : Obligations.ResetMeetsTheInvariant :=
  ⟨fun _ mux h => blockInv_resetWith mux h, blockInv_resetWith _ Config.build_wf⟩

/-- Settles O11. -/
theorem illegalStateRowsFault : Obligations.IllegalStateRowsFault :=
  fun _ _ _ => ⟨rfl, rfl⟩

end Sys2Proof.Machine
end

section
/-! No step relies on a register that is not valid (spec/10_state.md R36, R39). What agreement asks whatever `st` is
(`AgreeCore`) is kept by every shared operation; the registers valid in a state are added when a step enters it. -/

namespace Sys2Proof.Machine

/-- The part of `AgreeWhereValid` that does not depend on `st`. -/
structure AgreeCore (s t : State) : Prop where
  cfg : s.cfg = t.cfg
  idx : s.idx = t.idx
  wait : s.wait = t.wait
  answers : s.answers = t.answers
  nAnswers : s.nAnswers = t.nAnswers
  noneL : s.presented = []
  noneR : t.presented = []
  sink : s.sinkHist = t.sinkHist
  bus : s.busHist.map BusRecord.signals = t.busHist.map BusRecord.signals

/-- If the first result is a next state, so is the second, and the two states agree where registers are valid. -/
def AgreeingResults (r r' : Result) : Prop :=
  ∀ s', r = .next s' → ∃ t', r' = .next t' ∧ AgreeWhereValid s' t'

theorem AgreeWhereValid.results {s t : State} (h : AgreeWhereValid s t) : AgreeingResults (.next s) (.next t) := by
  intro s' hs'
  cases hs'
  exact ⟨t, rfl, h⟩

section
variable {s t : State}

theorem AgreeWhereValid.core (h : AgreeWhereValid s t) : AgreeCore s t := { h with }

/-! ### Entering a state -/

/-- At `IDLE` no register is valid but `idx` and `wait`. -/
theorem AgreeCore.agree_of_idle (h : AgreeCore s t) (hs : s.st = St.idle) (ht : t.st = St.idle) :
    AgreeWhereValid s t :=
  { h with
    st := hs.trans ht.symm
    ch := fun e => absurd hs e
    attempts := fun e => absurd (hs ▸ e) (by decide)
    bytes := fun e => absurd (hs ▸ e) (by decide)
    tWord := fun e => absurd (hs ▸ e) (by decide)
    rhWord := fun e => absurd (hs ▸ e) (by decide)
    err := fun e => absurd (hs ▸ e) (by decide)
    mux := fun e => absurd (hs ▸ e) not_inIteration_idle }

/-- In `FAILED` the channel and the error registers are valid. -/
theorem AgreeCore.agree_of_failed (h : AgreeCore s t) (hs : s.st = St.failed) (ht : t.st = St.failed)
    (hch : s.ch = t.ch) (herr : s.errCode = t.errCode ∧ s.errPhase = t.errPhase) : AgreeWhereValid s t :=
  { h with
    st := hs.trans ht.symm
    ch := fun _ => hch
    attempts := fun e => absurd (hs ▸ e) (by decide)
    bytes := fun e => absurd (hs ▸ e) (by decide)
    tWord := fun e => absurd (hs ▸ e) (by decide)
    rhWord := fun e => absurd (hs ▸ e) (by decide)
    err := fun _ => herr
    mux := fun e => absurd (hs ▸ e) not_inIteration_failed }

/-- In a state `y` of the iteration the channel and `MUXREG` are valid, and of the other registers those that the state
itself makes valid: where `y` is known, only these need an argument. -/
theorem AgreeCore.agree_of_inIteration (h : AgreeCore s t) {y : BitVec 4} (hs : s.st = y) (ht : t.st = y)
    (hch : s.ch = t.ch) (hmux : s.muxreg = t.muxreg)
    (attempts : y = St.tPolling ∨ y = St.rhPolling → s.attempts = t.attempts :=
      by exact fun e => absurd e (by decide))
    (bytes : y = St.tRead ∨ y = St.rhRead → s.msb = t.msb ∧ s.lsb = t.lsb ∧ s.chk = t.chk :=
      by exact fun e => absurd e (by decide))
    (tWord : 5 ≤ y.toNat ∧ y.toNat ≤ 8 → s.tWord = t.tWord := by exact fun e => absurd e (by decide))
    (rhWord : y = St.done → s.rhWord = t.rhWord := by exact fun e => absurd e (by decide))
    (hy : y ≠ St.failed := by decide) : AgreeWhereValid s t := by
  subst hs
  exact { h with
    st := ht.symm
    ch := fun _ => hch
    attempts := attempts
    bytes := bytes
    tWord := tWord
    rhWord := rhWord
    err := fun e => absurd e hy
    mux := fun _ => hmux }

/-! ### The shared operations -/

section
variable (h : AgreeCore s t)
include h

theorem AgreeCore.answer : s.answer = t.answer := by
  unfold State.answer
  rw [h.answers, h.nAnswers]

theorem AgreeCore.muxResp (b : Byte) : s.muxResp b = t.muxResp b := by
  rw [State.muxResp_eq, State.muxResp_eq, h.answer]

theorem AgreeCore.trigResp (hmux : s.muxreg = t.muxreg) (k : Kind) : s.trigResp k = t.trigResp k := by
  rw [State.trigResp_eq, State.trigResp_eq, h.cfg, hmux, h.answer]

theorem AgreeCore.pollResp (hmux : s.muxreg = t.muxreg) : s.pollResp = t.pollResp := by
  rw [State.pollResp_eq, State.pollResp_eq, h.cfg, hmux, h.answer]

theorem AgreeCore.emit (e : Event) : AgreeCore (s.emit e) (t.emit e) :=
  { h with sink := congrArg (· ++ [e]) h.sink }

theorem AgreeCore.channelAt : channelAt s.cfg s.idx = channelAt t.cfg t.idx := by rw [h.cfg, h.idx]

theorem AgreeCore.startIteration : AgreeCore s.startIteration t.startIteration :=
  { h with sink := by simp [h.sink, h.channelAt] }

/-- The select does not rely on what `MUXREG` held: the value stands in `mux_at_issue` only. -/
theorem AgreeCore.muxWrite (b : Byte) : AgreeCore (s.muxWrite b) (t.muxWrite b) :=
  { h with
    answers := by simp [h.answers]
    nAnswers := by simp [h.nAnswers]
    bus := by simp [BusRecord.signals, h.bus, h.cfg, h.muxResp] }

theorem AgreeCore.trigger (hmux : s.muxreg = t.muxreg) (k : Kind) : AgreeCore (s.trigger k) (t.trigger k) :=
  { h with
    answers := by simp [h.answers]
    nAnswers := by simp [h.nAnswers]
    bus := by simp [BusRecord.signals, h.bus, h.cfg, h.trigResp hmux] }

theorem AgreeCore.pollOnce (hmux : s.muxreg = t.muxreg) : AgreeCore s.pollOnce t.pollOnce where
  cfg := by simpa using h.cfg
  idx := by simpa using h.idx
  wait := by simpa using h.wait
  answers := by simp [h.answers]
  nAnswers := by simp [h.nAnswers]
  noneL := by simpa using h.noneL
  noneR := by simpa using h.noneR
  sink := by simpa using h.sink
  bus := by simp [BusRecord.signals, State.readData, h.bus, h.cfg, h.pollResp hmux, h.answer]

theorem AgreeCore.raiseFail (hch : s.ch = t.ch) (c : ErrCode) (p : Phase) :
    AgreeWhereValid (s.raiseFail c p) (t.raiseFail c p) :=
  AgreeCore.agree_of_failed { h with wait := rfl } rfl rfl hch ⟨rfl, rfl⟩

theorem AgreeCore.toNextChannel : AgreeWhereValid s.toNextChannel t.toNextChannel :=
  AgreeCore.agree_of_idle { h with idx := by simp [h.cfg, h.idx], wait := by simp [h.cfg] } rfl rfl

/-- The `MUXW` of `S_IDLE` (44_acquisition.md R192) writes `MUXREG` with the same value in both states: the mask, or the
environment's draw. -/
theorem AgreeCore.selectStep (hch : s.ch = t.ch) : AgreeWhereValid s.selectStep t.selectStep := by
  have hresp := h.muxResp (muxMask s.ch)
  have hw := h.muxWrite (muxMask s.ch)
  cases hr : s.muxResp (muxMask s.ch) with
  | ack =>
    rw [State.selectStep_ack hr, State.selectStep_ack (hch ▸ hresp ▸ hr), ← hch]
    exact AgreeCore.agree_of_inIteration (y := St.chSelected) { hw with wait := by simp [h.cfg] } rfl rfl hch
      (by simp [hr, ← hresp])
  | nack =>
    rw [State.selectStep_nack hr, State.selectStep_nack (hch ▸ hresp ▸ hr), ← hch]
    exact hw.raiseFail hch _ _

end

/-! ### The steps of the iteration -/

section
variable (h : AgreeWhereValid s t)
include h

/-- In the iteration the channel and `MUXREG` are valid. -/
theorem AgreeWhereValid.selected (hs : inIteration s.st) : s.ch = t.ch ∧ s.muxreg = t.muxreg :=
  ⟨h.ch (inIteration_ne_idle hs), h.mux hs⟩

/-- `S_CH_SELECTED` (R193). -/
theorem AgreeWhereValid.execSChSelected (hs : s.st = St.chSelected) :
    AgreeingResults (execSChSelected s) (execSChSelected t) := by
  obtain ⟨hch, hmux⟩ := h.selected (inIteration_of_unpolled (by rw [hs]; decide))
  have hw := h.core.trigger hmux .temperature
  have hresp := h.core.trigResp hmux .temperature
  unfold Machine.execSChSelected
  rw [← hresp]
  cases s.trigResp .temperature with
  | ack =>
    exact AgreeWhereValid.results
      (AgreeCore.agree_of_inIteration (y := St.tTriggered) { hw with } rfl rfl hch hmux)
  | nack => exact (hw.raiseFail hch _ _).results

/-- `S_T_TRIGGERED` and `S_RH_TRIGGERED` (R194, R197): `attempts` becomes valid. -/
theorem AgreeWhereValid.startPolling {k : Kind} (hs : s.st = triggeredSt k) :
    AgreeWhereValid (s.startPolling (pollingSt k)) (t.startPolling (pollingSt k)) := by
  obtain ⟨hch, hmux⟩ := h.selected (inIteration_of_unpolled (by rw [hs]; cases k <;> decide))
  exact AgreeCore.agree_of_inIteration (y := pollingSt k) { h.core with wait := by simp [h.cfg] } rfl rfl hch hmux
    (attempts := fun _ => rfl)
    (bytes := fun e => absurd e (by cases k <;> decide))
    (tWord := fun e => h.tWord (by rw [hs]; cases k <;> revert e <;> decide))
    (rhWord := fun e => absurd e (by cases k <;> decide))
    (hy := by cases k <;> decide)

/-- `S_T_POLLING` and `S_RH_POLLING` (R195, R198). -/
theorem AgreeWhereValid.pollingStep {k : Kind} (hs : s.st = pollingSt k) :
    AgreeWhereValid (s.pollingStep k (readSt k)) (t.pollingStep k (readSt k)) := by
  obtain ⟨hch, hmux⟩ := h.selected (hs ▸ inIteration_pollingSt k)
  have ht : t.st = pollingSt k := h.st ▸ hs
  have hatt : s.attempts = t.attempts := h.attempts (by rw [hs]; cases k <;> decide)
  have hpoll := h.core.pollOnce hmux
  have hresp := h.core.pollResp hmux
  cases hr : s.pollResp with
  | ack =>
    rw [State.pollingStep_ack hr, State.pollingStep_ack (hresp ▸ hr)]
    exact AgreeCore.agree_of_inIteration (y := readSt k) { hpoll with } rfl rfl (by simpa using hch)
      (by simpa using hmux)
      (attempts := fun e => absurd e (by cases k <;> decide))
      (bytes := fun _ => by simp [← hresp, hr, h.core.answer])
      (tWord := fun e => by simpa using h.tWord (by rw [hs]; cases k <;> revert e <;> decide))
      (rhWord := fun e => absurd e (by cases k <;> decide))
      (hy := by cases k <;> decide)
  | nack =>
    by_cases hm : s.attempts + 1 = pollMax s.cfg k
    · rw [State.pollingStep_timeout hr hm, State.pollingStep_timeout (hresp ▸ hr) (hatt ▸ h.cfg ▸ hm)]
      have hcore : AgreeCore { s.pollOnce with attempts := s.attempts + 1 }
          { t.pollOnce with attempts := t.attempts + 1 } := { hpoll with }
      exact hcore.raiseFail (by simpa using hch) _ _
    · rw [State.pollingStep_again hr hm, State.pollingStep_again (hresp ▸ hr) (hatt ▸ h.cfg ▸ hm)]
      exact AgreeCore.agree_of_inIteration (y := pollingSt k) { hpoll with wait := by simp [h.cfg] }
        (by simpa using hs) (by simpa using ht) (by simpa using hch) (by simpa using hmux)
        (attempts := fun _ => by simp [hatt])
        (bytes := fun e => absurd e (by cases k <;> decide))
        (tWord := fun e => by simpa using h.tWord (hs ▸ e))
        (rhWord := fun e => absurd e (by cases k <;> decide))
        (hy := by cases k <;> decide)

/-- `S_T_READ` (R196). -/
theorem AgreeWhereValid.execSTRead (hs : s.st = St.tRead) : AgreeingResults (execSTRead s) (execSTRead t) := by
  obtain ⟨hch, hmux⟩ := h.selected (inIteration_of_unpolled (by rw [hs]; decide))
  obtain ⟨hm, hl, hc⟩ := h.bytes (.inl hs)
  have hw := h.core.trigger hmux .humidity
  have hresp := h.core.trigResp hmux .humidity
  unfold Machine.execSTRead
  rw [← hm, ← hl, ← hc]
  cases crcValid s.msb s.lsb s.chk with
  | false => exact (h.core.raiseFail hch _ _).results
  | true =>
    refine AgreeWhereValid.results ?_
    simp only [if_true]
    cases hr : s.trigResp .humidity with
    | ack =>
      rw [State.storeAndTriggerRh_ack hr, State.storeAndTriggerRh_ack (hresp ▸ hr)]
      exact AgreeCore.agree_of_inIteration (y := St.rhTriggered) { hw with } rfl rfl hch hmux
        (tWord := fun _ => by rw [hm, hl])
    | nack =>
      rw [State.storeAndTriggerRh_nack hr, State.storeAndTriggerRh_nack (hresp ▸ hr)]
      have hcore : AgreeCore { s.trigger .humidity with tWord := wordOf s.msb s.lsb }
          { t.trigger .humidity with tWord := wordOf t.msb t.lsb } := { hw with }
      exact hcore.raiseFail hch _ _

/-- `S_RH_READ` (R199). -/
theorem AgreeWhereValid.execSRhRead (hs : s.st = St.rhRead) : AgreeingResults (execSRhRead s) (execSRhRead t) := by
  obtain ⟨hch, hmux⟩ := h.selected (inIteration_of_unpolled (by rw [hs]; decide))
  obtain ⟨hm, hl, hc⟩ := h.bytes (.inr hs)
  unfold Machine.execSRhRead
  rw [← hm, ← hl, ← hc]
  cases crcValid s.msb s.lsb s.chk with
  | false => exact (h.core.raiseFail hch _ _).results
  | true =>
    exact AgreeWhereValid.results (AgreeCore.agree_of_inIteration (y := St.done) { h.core with } rfl rfl hch hmux
      (tWord := fun _ => h.tWord (by rw [hs]; decide)) (rhWord := fun _ => rfl))

/-- `S_DONE` (R200). -/
theorem AgreeWhereValid.execSDone (hs : s.st = St.done) : AgreeingResults (execSDone s) (execSDone t) := by
  unfold Machine.execSDone
  rw [h.ch (by rw [hs]; decide), h.tWord (by rw [hs]; decide), h.rhWord hs]
  exact (h.core.emit _).toNextChannel.results

/-- `S_FAILED` (R201). -/
theorem AgreeWhereValid.execSFailed (hs : s.st = St.failed) : AgreeingResults (execSFailed s) (execSFailed t) := by
  obtain ⟨hc, hp⟩ := h.err hs
  unfold Machine.execSFailed
  rw [h.ch (by rw [hs]; decide), hc, hp]
  exact (h.core.emit _).toNextChannel.results

end

end

/-! ### The step that is selected -/

/-- Which operation a select code names, as a case analysis on its state and waiting flag (30_encoding.md R84). -/
theorem decodeSelect_cases (st : BitVec 4) (z : Bool) :
    let i := decodeSelect (st ++ BitVec.ofBool z)
    (∃ x, i = .faultIllegalState101 x) ∨ (∃ x, i = .faultIllegalState11 x) ∨ i = .tick st ∨
    (st = St.idle ∧ i = .sIdle) ∨ (st = St.chSelected ∧ i = .sChSelected) ∨
    (st = St.tTriggered ∧ i = .sTTriggered) ∨ (st = St.tPolling ∧ i = .sTPolling) ∨
    (st = St.tRead ∧ i = .sTRead) ∨ (st = St.rhTriggered ∧ i = .sRhTriggered) ∨
    (st = St.rhPolling ∧ i = .sRhPolling) ∨ (st = St.rhRead ∧ i = .sRhRead) ∨
    (st = St.done ∧ i = .sDone) ∨ (st = St.failed ∧ i = .sFailed) := by
  revert st z
  decide

/-- Agreeing states run the same operation, and its results agree. -/
theorem AgreeWhereValid.step {s t : State} (hwf : s.cfg.wf = true) (h : AgreeWhereValid s t) :
    AgreeingResults (step s) (step t) := by
  rw [step_free hwf h.noneL, step_free (h.cfg ▸ hwf) h.noneR]
  unfold State.selectCode
  rw [← h.st, ← h.wait]
  obtain ⟨x, hi⟩ | ⟨x, hi⟩ | hi | ⟨hs, hi⟩ | ⟨hs, hi⟩ | ⟨hs, hi⟩ | ⟨hs, hi⟩ | ⟨hs, hi⟩ | ⟨hs, hi⟩ | ⟨hs, hi⟩ | ⟨hs, hi⟩ |
    ⟨hs, hi⟩ | ⟨hs, hi⟩ := decodeSelect_cases s.st (s.wait == 0) <;> rw [hi]
  · exact nofun
  · exact nofun
  · exact AgreeWhereValid.results { h with wait := by simp [h.wait] }
  · exact (h.core.startIteration.selectStep h.core.channelAt).results
  · exact h.execSChSelected hs
  · exact (h.startPolling (k := .temperature) hs).results
  · exact (h.pollingStep (k := .temperature) hs).results
  · exact h.execSTRead hs
  · exact (h.startPolling (k := .humidity) hs).results
  · exact (h.pollingStep (k := .humidity) hs).results
  · exact h.execSRhRead hs
  · exact h.execSDone hs
  · exact h.execSFailed hs

/-- Settles O53: agreeing states step to agreeing states, and at `IDLE` nothing but the core has to agree. -/
theorem unspecifiedRegistersAreNeverReliedOn : Obligations.UnspecifiedRegistersAreNeverReliedOn := by
  refine ⟨fun s t s' hwf h hs' => h.step hwf s' hs', ?_⟩
  intro c mux t hcfg hst hidx hwait hbus hsink hans hn hp
  have hcore : AgreeCore (State.resetWith c mux) t :=
    { cfg := hcfg.symm, idx := hidx.symm, wait := hwait.symm, answers := hans.symm, nAnswers := hn.symm,
      noneL := rfl, noneR := hp, sink := hsink.symm, bus := by rw [hbus]; rfl }
  exact hcore.agree_of_idle rfl hst

end Sys2Proof.Machine
end

section
/-! Which devices a transaction reaches (spec/10_state.md R31; spec/20_memory.md R51; spec/40_mux_writer.md R104). -/

namespace Sys2Proof.Machine

/-- Bit `i` of `MUXREG`, as a digit. -/
theorem segmentConnected_iff (m : Byte) (i : Channel) :
    segmentConnected m i = true ↔ m.toNat / 2 ^ i.toNat % 2 = 1 := by
  simp [segmentConnected, BitVec.getLsbD, Nat.testBit_eq_decide_div_mod_eq]

/-- The connected segments determine `MUXREG`: it has a bit for each segment and no other. -/
theorem connectedSegments_injective {m n : Byte} (h : connectedSegments m = connectedSegments n) : m = n := by
  refine BitVec.eq_of_getLsbD_eq fun i hi => ?_
  have hbit : (BitVec.ofNat 3 i).toNat = i := Nat.mod_eq_of_lt hi
  have hmem := mem_connectedSegments m (BitVec.ofNat 3 i)
  rw [h, mem_connectedSegments n, segmentConnected, segmentConnected, hbit] at hmem
  exact (Bool.eq_iff_iff.mpr hmem).symm

theorem connectedSegments_eq_singleton_iff (m : Byte) (c : Channel) : connectedSegments m = [c] ↔ m = muxMask c := by
  rw [← connectedSegments_muxMask c]
  exact ⟨connectedSegments_injective, congrArg _⟩

theorem devicesReached_mux (c : Config) (m : Byte) : devicesReached c m c.muxAddr = [.multiplexer] := if_pos rfl

theorem devicesReached_sensor {c : Config} (m : Byte) (h : c.muxAddr ≠ c.sensorAddr) :
    devicesReached c m c.sensorAddr = (connectedSegments m).map .sensor := by
  simp [devicesReached, h.symm]

/-- The sensor of one segment alone is reached exactly with that segment's mask in `MUXREG`. -/
theorem devicesReached_sensor_eq_singleton_iff {c : Config} (m : Byte) (k : Channel) (h : c.muxAddr ≠ c.sensorAddr) :
    devicesReached c m c.sensorAddr = [.sensor k] ↔ m = muxMask k := by
  rw [devicesReached_sensor m h, ← connectedSegments_eq_singleton_iff, List.map_eq_singleton_iff]
  simp

/-- With no segment connected, the sensor's address byte is refused (R51). -/
theorem State.sensor_refused {s : State} (hc : s.cfg.muxAddr ≠ s.cfg.sensorAddr) (hm : s.muxreg = 0) (k : Kind) :
    s.trigResp k = .nack ∧ s.pollResp = .nack := by
  have hr : reaches s.cfg s.muxreg s.cfg.sensorAddr = false := by rw [reaches_sensor _ hc, hm]; rfl
  rw [State.trigResp_eq, State.pollResp_eq, hr]
  exact ⟨rfl, rfl⟩

/-- A multiplexer write is acknowledged exactly when the environment acknowledges both bytes (R53). -/
theorem State.muxResp_ack_iff (s : State) (b : Byte) : s.muxResp b = .ack ↔ muxAccepts s := by
  rw [State.muxResp_eq, respOf_ack, Bool.and_eq_true, muxAccepts]

/-- Settles O29. -/
theorem unreachedSensorIsRefused : Obligations.UnreachedSensorIsRefused := by
  intro s k b hc
  refine ⟨fun i => ⟨segmentConnected_iff _ i, ?_⟩, ?_, ?_, ?_, devicesReached_mux .., s.muxResp_ack_iff b⟩
  · rw [devicesReached_sensor _ hc, ← mem_connectedSegments]
    simp
  · exact fun c hm => (devicesReached_sensor_eq_singleton_iff _ c hc).mpr hm
  · intro r c ha
    rw [attributedTo, recordDevices, ha, devicesReached_sensor_eq_singleton_iff _ c hc]
    exact and_iff_right rfl
  · intro hm
    refine ⟨?_, State.sensor_refused hc hm k⟩
    rw [devicesReached_sensor _ hc, hm]
    rfl

end Sys2Proof.Machine
end

section
/-! Which operation writes which register (spec/10_state.md R20, R33). An operation is seen in two parts: what it does to
the registers other than `st`, `wait`, `err_code` and `err_phase` (`dataPart`), and how it ends, with a failure or by
going on (`EndsIn`). -/

namespace Sys2Proof.Machine

/-! ### The operations of each kind -/

/-- A bus row or the validator, which fail when run on their own (log 7, log 8). -/
def RowFails (i : Instr) : Prop :=
  (∃ ch, i = Instr.muxw ch) ∨ i = .trigT ∨ i = .trigRh ∨ ∃ m l k, i = .crcCheck m l k

/-- The operations that can take a failure (60_exceptions.md R231 to R233). -/
def CanFail (i : Instr) : Prop :=
  i = .sIdle ∨ i = .sChSelected ∨ i = .sTPolling ∨ i = .sTRead ∨ i = .sRhPolling ∨ i = .sRhRead ∨ RowFails i

/-- The steps of the state machine other than `TICK`, which write `st`. -/
def WritesSt (i : Instr) : Prop :=
  i = .sIdle ∨ i = .sChSelected ∨ i = .sTTriggered ∨ i = .sTPolling ∨ i = .sTRead ∨
    i = .sRhTriggered ∨ i = .sRhPolling ∨ i = .sRhRead ∨ i = .sDone ∨ i = .sFailed

/-- `TICK` and the steps that load `wait`. -/
def WritesWait (i : Instr) : Prop :=
  (∃ x, i = .tick x) ∨ i = .sIdle ∨ i = .sTTriggered ∨ i = .sTPolling ∨ i = .sRhTriggered ∨
    i = .sRhPolling ∨ i = .sDone ∨ i = .sFailed

theorem CanFail.writesSt_or_rowFails {i : Instr} (h : CanFail i) : WritesSt i ∨ RowFails i := by
  unfold CanFail at h
  unfold WritesSt
  tauto

/-! ### How an operation ends -/

/-- Operation `i`, whose data part left `b`, ends in a failure or goes on. -/
inductive EndsIn (i : Instr) (b : State) : State → Prop
  | failed (c : ErrCode) (p : Phase) (hi : CanFail i) : EndsIn i b (b.raiseFail c p)
  | went (y : BitVec 4) (w : Nat) (hy : y ≠ b.st → WritesSt i) (hw : w ≠ b.wait → WritesWait i) :
      EndsIn i b { b with st := y, wait := w }

section
variable {i : Instr} {b t : State}

/-- Neither `st` nor `wait` is written. -/
theorem EndsIn.same : EndsIn i b b := .went b.st b.wait (absurd rfl) (absurd rfl)

theorem EndsIn.goto (y : BitVec 4) (hi : WritesSt i) : EndsIn i b { b with st := y } :=
  .went y b.wait (fun _ => hi) (absurd rfl)

theorem EndsIn.load (w : Nat) (hi : WritesWait i) : EndsIn i b { b with wait := w } :=
  .went b.st w (absurd rfl) (fun _ => hi)

theorem EndsIn.gotoLoad (y : BitVec 4) (w : Nat) (hs : WritesSt i) (hw : WritesWait i) :
    EndsIn i b { b with st := y, wait := w } :=
  .went y w (fun _ => hs) (fun _ => hw)

variable (h : EndsIn i b t)
include h

/-- The registers that are not a matter of how the operation ends. -/
theorem EndsIn.frame :
    t = { b with st := t.st, wait := t.wait, errCode := t.errCode, errPhase := t.errPhase } := by
  cases h <;> rfl

theorem EndsIn.st (hne : t.st ≠ b.st) : WritesSt i ∨ (t.st = St.failed ∧ RowFails i) := by
  cases h with
  | failed c p hi => exact hi.writesSt_or_rowFails.imp_right (fun hr => ⟨rfl, hr⟩)
  | went y w hy hw => exact .inl (hy hne)

theorem EndsIn.wait (hne : t.wait ≠ b.wait) : WritesWait i ∨ (t.st = St.failed ∧ t.wait = 0) := by
  cases h with
  | failed c p hi => exact .inr ⟨rfl, rfl⟩
  | went y w hy hw => exact .inl (hw hne)

theorem EndsIn.err (hne : t.errCode ≠ b.errCode ∨ t.errPhase ≠ b.errPhase) :
    t.st = St.failed ∧ t.wait = 0 ∧ CanFail i := by
  cases h with
  | failed c p hi => exact ⟨rfl, rfl, hi⟩
  | went y w hy hw => simp at hne

end

section
variable (s : State) {i : Instr}

theorem State.selectChannel_endsIn (ch : Channel) (hi : ∃ ch, i = Instr.muxw ch) :
    EndsIn i (s.muxWrite (muxMask ch)) (s.selectChannel ch) := by
  unfold State.selectChannel
  split
  · exact .same
  · exact .failed _ _ (by simp [CanFail, RowFails, hi])

theorem State.triggerOrFail_endsIn (k : Kind) (hi : i = .trigT ∨ i = .trigRh) :
    EndsIn i (s.trigger k) (s.triggerOrFail k) := by
  unfold State.triggerOrFail
  split
  · exact .same
  · exact .failed _ _ (by simp only [CanFail, RowFails]; tauto)

theorem State.selectStep_endsIn : EndsIn .sIdle (s.muxWrite (muxMask s.ch)) s.selectStep := by
  unfold State.selectStep
  split
  · exact .gotoLoad _ _ (by simp [WritesSt]) (by simp [WritesWait])
  · exact .failed _ _ (by simp [CanFail])

theorem State.pollingStep_endsIn (k : Kind) (y : BitVec 4) (hi : i = .sTPolling ∨ i = .sRhPolling) :
    EndsIn i { s.pollOnce with attempts := s.attempts + 1 } (s.pollingStep k y) := by
  have hs : WritesSt i := by unfold WritesSt; tauto
  have hw : WritesWait i := by unfold WritesWait; tauto
  have hf : CanFail i := by unfold CanFail; tauto
  unfold State.pollingStep
  split
  · exact .goto y hs
  · split
    · exact .failed _ _ hf
    · exact .load _ hw

theorem State.storeAndTriggerRh_endsIn :
    EndsIn .sTRead { s.trigger .humidity with tWord := wordOf s.msb s.lsb } s.storeAndTriggerRh := by
  unfold State.storeAndTriggerRh
  split
  · exact .goto _ (by simp [WritesSt])
  · exact .failed _ _ (by simp [CanFail])

end

/-! ### What an operation does to the other registers -/

/-- What an operation does but for its ending. -/
def dataPart (i : Instr) (s : State) : State :=
  match i with
  | .muxw0 => s.muxWrite (muxMask 0)
  | .muxw1 => s.muxWrite (muxMask 1)
  | .muxw2 => s.muxWrite (muxMask 2)
  | .muxw3 => s.muxWrite (muxMask 3)
  | .muxw4 => s.muxWrite (muxMask 4)
  | .muxw5 => s.muxWrite (muxMask 5)
  | .muxw6 => s.muxWrite (muxMask 6)
  | .muxw7 => s.muxWrite (muxMask 7)
  | .muxoff => s.muxWrite 0x00
  | .trigT | .sChSelected => s.trigger .temperature
  | .trigRh => s.trigger .humidity
  | .poll => s.pollOnce
  | .sIdle => s.startIteration.muxWrite (muxMask (channelAt s.cfg s.idx))
  | .sTTriggered | .sRhTriggered => { s with attempts := 0 }
  | .sTPolling | .sRhPolling => { s.pollOnce with attempts := s.attempts + 1 }
  | .sTRead =>
    if crcValid s.msb s.lsb s.chk then { s.trigger .humidity with tWord := wordOf s.msb s.lsb } else s
  | .sRhRead => if crcValid s.msb s.lsb s.chk then { s with rhWord := wordOf s.msb s.lsb } else s
  | .sDone => { s.emit (.reading s.ch s.tWord s.rhWord) with idx := nextIdx s.cfg s.idx }
  | .sFailed => { s.emit (.fail s.ch s.errCode s.errPhase) with idx := nextIdx s.cfg s.idx }
  | .crcCheck _ _ _ | .tick _ => s
  | .trigTHold | .trigRhHold | .faultIllegalState101 _ | .faultIllegalState11 _ => s

/-- Every operation that answers does its data part and then ends in one of the two ways. -/
theorem exec_endsIn {i : Instr} {s t : State} (h : exec i s = .next t) : EndsIn i (dataPart i s) t := by
  cases i with
  | muxw0 | muxw1 | muxw2 | muxw3 | muxw4 | muxw5 | muxw6 | muxw7 =>
    cases h; exact s.selectChannel_endsIn _ (by decide)
  | muxoff | poll => cases h; exact .same
  | trigT => cases h; exact s.triggerOrFail_endsIn _ (.inl rfl)
  | trigRh => cases h; exact s.triggerOrFail_endsIn _ (.inr rfl)
  | crcCheck m l k =>
    cases h; split
    · exact .same
    · exact .failed _ _ (by simp [CanFail, RowFails])
  | tick x => cases h; exact .load _ (by simp [WritesWait])
  | sIdle => cases h; exact s.startIteration.selectStep_endsIn
  | sChSelected =>
    cases h; split
    · exact .goto _ (by simp [WritesSt])
    · exact .failed _ _ (by simp [CanFail])
  | sTTriggered | sRhTriggered => cases h; exact .gotoLoad _ _ (by simp [WritesSt]) (by simp [WritesWait])
  | sTPolling => cases h; exact s.pollingStep_endsIn _ _ (.inl rfl)
  | sRhPolling => cases h; exact s.pollingStep_endsIn _ _ (.inr rfl)
  | sTRead =>
    cases h
    simp only [dataPart]
    split
    · exact s.storeAndTriggerRh_endsIn
    · exact .failed _ _ (by simp [CanFail])
  | sRhRead =>
    cases h
    simp only [dataPart]
    split
    · exact .goto _ (by simp [WritesSt])
    · exact .failed _ _ (by simp [CanFail])
  | sDone | sFailed => cases h; exact .gotoLoad _ _ (by simp [WritesSt]) (by simp [WritesWait])
  | trigTHold | trigRhHold | faultIllegalState101 | faultIllegalState11 => cases h

section
variable {i : Instr} {s : State}

/-- What no data part writes. -/
theorem dataPart_frame (i : Instr) (s : State) : (dataPart i s).cfg = s.cfg ∧ (dataPart i s).presented = s.presented ∧
    (dataPart i s).st = s.st ∧ (dataPart i s).wait = s.wait ∧
    (dataPart i s).errCode = s.errCode ∧ (dataPart i s).errPhase = s.errPhase := by
  cases i with
  | sTRead | sRhRead => simp only [dataPart]; split <;> simp
  | _ => simp [dataPart]

theorem dataPart_idx : (dataPart i s).idx ≠ s.idx → i = .sDone ∨ i = .sFailed := by
  cases i with
  | sDone => exact fun _ => .inl rfl
  | sFailed => exact fun _ => .inr rfl
  | sTRead | sRhRead => simp only [dataPart]; split <;> simp
  | _ => simp [dataPart]

theorem dataPart_ch : (dataPart i s).ch ≠ s.ch → i = .sIdle := by
  cases i with
  | sIdle => exact fun _ => rfl
  | sTRead | sRhRead => simp only [dataPart]; split <;> simp
  | _ => simp [dataPart]

theorem dataPart_attempts : (dataPart i s).attempts ≠ s.attempts →
    i = .sTTriggered ∨ i = .sRhTriggered ∨ i = .sTPolling ∨ i = .sRhPolling := by
  cases i with
  | sTTriggered | sRhTriggered | sTPolling | sRhPolling => simp
  | sTRead | sRhRead => simp only [dataPart]; split <;> simp
  | _ => simp [dataPart]

theorem dataPart_bytes :
    ((dataPart i s).msb ≠ s.msb ∨ (dataPart i s).lsb ≠ s.lsb ∨ (dataPart i s).chk ≠ s.chk) →
    i = .sTPolling ∨ i = .sRhPolling ∨ i = .poll := by
  cases i with
  | sTPolling | sRhPolling | poll => simp
  | sTRead | sRhRead => simp only [dataPart]; split <;> simp
  | _ => simp [dataPart]

theorem dataPart_tWord : (dataPart i s).tWord ≠ s.tWord → i = .sTRead := by
  cases i with
  | sTRead => exact fun _ => rfl
  | sRhRead => simp only [dataPart]; split <;> simp
  | _ => simp [dataPart]

theorem dataPart_rhWord : (dataPart i s).rhWord ≠ s.rhWord → i = .sRhRead := by
  cases i with
  | sRhRead => exact fun _ => rfl
  | sTRead => simp only [dataPart]; split <;> simp
  | _ => simp [dataPart]

theorem dataPart_muxreg : (dataPart i s).muxreg ≠ s.muxreg →
    i = .sIdle ∨ i = .muxoff ∨ ∃ ch, i = Instr.muxw ch := by
  cases i with
  | sIdle => exact fun _ => .inl rfl
  | muxoff => exact fun _ => .inr (.inl rfl)
  | muxw0 | muxw1 | muxw2 | muxw3 | muxw4 | muxw5 | muxw6 | muxw7 => exact fun _ => .inr (.inr (by decide))
  | sTRead | sRhRead => simp only [dataPart]; split <;> simp
  | _ => simp [dataPart]

end

/-- Settles O48: `st`, `wait` and the error registers by how the operation ends, the others by its data part. -/
theorem registersAreWrittenByTheirSteps : Obligations.RegistersAreWrittenByTheirSteps := by
  intro i s t h
  have he := exec_endsIn h
  obtain ⟨hcfg, hpres, hst, hwait, hcode, hphase⟩ := dataPart_frame i s
  refine ⟨?_, ?_, fun hne => ?_, fun hne => ?_, fun hne => he.err (by rwa [hcode, hphase]), ?_⟩
  · rw [he.frame]; exact hcfg
  · rw [he.frame]; exact hpres
  · simpa only [WritesSt, RowFails, or_assoc] using he.st (by rwa [hst])
  · simpa only [WritesWait, or_assoc] using he.wait (by rwa [hwait])
  · rw [he.frame]
    exact ⟨dataPart_idx, dataPart_ch, dataPart_attempts, dataPart_bytes, dataPart_tWord, dataPart_rhWord,
      dataPart_muxreg⟩

end Sys2Proof.Machine
end

section
/-! PROOF. The expansion of writes and reads into the transport's primitives (spec/20_memory.md R53, R54). -/

namespace Sys2Proof.Machine

/-! ### The bytes of a write -/

/-- A write's bytes are acknowledged exactly when the device acknowledges each of them. -/
theorem sendBytes_resp_ack {bs : List Byte} {acks : List Bool} (hlen : acks.length = bs.length) :
    (sendBytes bs acks).resp = .ack ↔ ∀ x ∈ acks, x = true := by
  induction bs, acks using sendBytes.induct with
  | case1 acks =>
    obtain rfl := List.eq_nil_of_length_eq_zero hlen
    simp [sendBytes]
  | case2 b bs acks ih => simpa [sendBytes] using ih (by simpa using hlen)
  | case3 => simp [sendBytes]
  | case4 => simp at hlen

/-- When no byte is refused, all are sent. -/
theorem sendBytes_prims_of_acked {bs : List Byte} {acks : List Bool} (hlen : acks.length = bs.length)
    (hacked : ∀ x ∈ acks, x = true) :
    (sendBytes bs acks).prims = bs.map (fun b => .writeByte b .ack) := by
  induction bs, acks using sendBytes.induct with
  | case1 => rfl
  | case2 b bs acks ih =>
    have htail := ih (by simpa using hlen) (List.forall_mem_cons.mp hacked).2
    simp [sendBytes, htail]
  | case3 => simp at hacked
  | case4 => simp at hlen

/-- When the byte at `n` is the first refused one, it is the last one sent. -/
theorem sendBytes_prims_of_first_refused {bs : List Byte} {acks : List Bool} {n : Nat} {b : Byte}
    (hacked : ∀ x ∈ acks.take n, x = true) (hrefused : acks[n]? = some false) (hb : bs[n]? = some b) :
    (sendBytes bs acks).prims = (bs.take n).map (fun b => .writeByte b .ack) ++ [.writeByte b .nack] := by
  induction bs, acks using sendBytes.induct generalizing n with
  | case1 => simp at hb
  | case2 b' bs acks ih =>
    cases n with
    | zero => simp at hrefused
    | succ n =>
      have htail := ih (List.forall_mem_cons.mp hacked).2 hrefused hb
      simp [sendBytes, htail]
  | case3 =>
    cases n with
    | zero =>
      obtain rfl := Option.some.inj hb
      rfl
    | succ n => simp at hacked
  | case4 => simp at hrefused

/-- Settles O30: the three facts about the bytes sent, the address byte first, framed by START and STOP. -/
theorem writeFrameStopsAtTheFirstRefusal : Obligations.WriteFrameStopsAtTheFirstRefusal := by
  intro a bs acks hlen
  refine ⟨sendBytes_resp_ack hlen, fun hacked => ?_, fun n b _ hacked hrefused hb => ?_⟩
  · simp only [writeFrame, sendBytes_prims_of_acked (bs := addrByte a .write :: bs) hlen hacked]
  · simp only [writeFrame, sendBytes_prims_of_first_refused hacked hrefused hb, List.cons_append,
      List.append_assoc, List.nil_append]

/-! ### The bytes of a read -/

/-- The master acknowledges every data byte but the last. -/
theorem receiveBytes_concat (bs : List Byte) (b : Byte) :
    receiveBytes (bs ++ [b]) = bs.map (fun x => .readByte x .ack) ++ [.readByte b .nack] := by
  induction bs with
  | nil => rfl
  | cons x bs ih =>
    cases bs with
    | nil => rfl
    | cons y ys => exact congrArg (Prim.readByte x .ack :: ·) ih

/-- Settles O31: an acknowledged address byte is followed by the data bytes, a refused one by STOP. -/
theorem readFrameNacksTheLastByte : Obligations.ReadFrameNacksTheLastByte := by
  intro a bs b
  refine ⟨?_, rfl⟩
  simp [readFrame, receiveBytes_concat]

end Sys2Proof.Machine
end

section
/-! The codec (spec/30_encoding.md R70 to R78, R83 to R85): what `decode` answers on each kind of frame, in both
directions of its agreement with `encode`, and for the records of the bus history. -/

namespace Sys2Proof.Machine

/-! ### Frames of the two devices -/

/-- An address byte names its device. -/
theorem addrByte_inj {a b : Addr} {d : Dir} : addrByte a d = addrByte b d ↔ a = b :=
  BitVec.append_left_inj d.bit

theorem devices_ne {c : Config} (h : c.wf = true) : c.muxAddr ≠ c.sensorAddr := fun he =>
  Bool.false_ne_true ((Config.wf_eq_false_iff.mpr (.inl he)).symm.trans h)

theorem decodeWrite_mux (c : Config) (b : Byte) : decodeWrite c (addrByte c.muxAddr .write) b = decodeMux b :=
  if_pos rfl

theorem decodeWrite_sensor {c : Config} (h : c.wf = true) (b : Byte) :
    decodeWrite c (addrByte c.sensorAddr .write) b = decodeSensor c b := by
  unfold decodeWrite
  rw [if_neg (addrByte_inj.not.mpr (devices_ne h).symm), if_pos rfl]

theorem decodeWrite_elsewhere {c : Config} {a : Addr} (hm : a ≠ c.muxAddr) (hs : a ≠ c.sensorAddr) (b : Byte) :
    decodeWrite c (addrByte a .write) b = .error .notABlockOperation := by
  unfold decodeWrite
  rw [if_neg (addrByte_inj.not.mpr hm), if_neg (addrByte_inj.not.mpr hs)]

theorem decodeRead_sensor (c : Config) : decodeRead c (addrByte c.sensorAddr .read) = .ok .poll := if_pos rfl

theorem decodeRead_elsewhere {c : Config} {a : Addr} (hs : a ≠ c.sensorAddr) :
    decodeRead c (addrByte a .read) = .error .notABlockOperation :=
  if_neg (addrByte_inj.not.mpr hs)

/-! ### The data byte of a multiplexer write -/

theorem decodeMux_muxMask : ∀ ch : Channel, decodeMux (muxMask ch) = .ok (Instr.muxw ch) := by decide

theorem decodeMux_cases : ∀ b : Byte,
    (∃ ch, b = muxMask ch) ∨ b = 0 ∨ decodeMux b = .error .notABlockOperation := by
  decide +kernel

theorem encode_muxw (c : Config) (ch : Channel) : encode c (Instr.muxw ch) = writeBytes c.muxAddr (muxMask ch) := by
  have hcases : ∀ k : Channel, k = 0 ∨ k = 1 ∨ k = 2 ∨ k = 3 ∨ k = 4 ∨ k = 5 ∨ k = 6 ∨ k = 7 := by decide
  obtain rfl | rfl | rfl | rfl | rfl | rfl | rfl | rfl := hcases ch <;> rfl

theorem muxw_wf : ∀ ch : Channel, (Instr.muxw ch).wf = true := by decide

/-- A data byte that decodes is the one its operation sends. -/
theorem decodeMux_ok {c : Config} {b : Byte} {i : Instr} (h : decodeMux b = .ok i) :
    i.wf = true ∧ encode c i = writeBytes c.muxAddr b := by
  obtain ⟨ch, rfl⟩ | rfl | he := decodeMux_cases b
  · obtain rfl := Except.ok.inj ((decodeMux_muxMask ch).symm.trans h)
    exact ⟨muxw_wf ch, encode_muxw c ch⟩
  · cases h
    exact ⟨rfl, rfl⟩
  · rw [he] at h
    cases h

/-! ### The command byte of a sensor write -/

section
variable {c : Config}

/-- Distinct commands are told apart (00_scope.md R8). -/
theorem decodeSensor_commands (h : c.wf = true) :
    decodeSensor c c.cmdTNoHold = .ok .trigT ∧ decodeSensor c c.cmdRhNoHold = .ok .trigRh ∧
    decodeSensor c c.cmdTHold = .ok .trigTHold ∧ decodeSensor c c.cmdRhHold = .ok .trigRhHold := by
  have hd : ¬ c.commandsDistinct = false := fun he =>
    Bool.false_ne_true ((Config.wf_eq_false_iff.mpr (.inr (.inr (.inr (.inr (.inr he)))))).symm.trans h)
  simp only [Config.commandsDistinct_eq_false_iff, not_or] at hd
  obtain ⟨hTRh, hTTH, hTRhH, hRhTH, hRhRhH, hTHRhH⟩ := hd
  simp [decodeSensor, hTRh, hTTH, hTRhH, hRhTH, hRhRhH, hTHRhH, Ne.symm]

theorem decodeSensor_other {b : Byte} (hT : b ≠ c.cmdTNoHold) (hRh : b ≠ c.cmdRhNoHold) (hTH : b ≠ c.cmdTHold)
    (hRhH : b ≠ c.cmdRhHold) : decodeSensor c b = .error .notABlockOperation := by
  simp [decodeSensor, hT, hRh, hTH, hRhH]

/-- A command byte that decodes is the one its operation sends. -/
theorem decodeSensor_ok {b : Byte} {i : Instr} (h : decodeSensor c b = .ok i) :
    i.wf = true ∧ encode c i = writeBytes c.sensorAddr b := by
  unfold decodeSensor at h
  split_ifs at h
  all_goals
    subst b
    cases h
    exact ⟨rfl, rfl⟩

end

/-! ### Step-select codes -/

/-- A select byte of five bits is the byte of its code. -/
theorem selectByte_extract : ∀ b : Byte, b.extractLsb' 5 3 = 0#3 → selectByte (b.extractLsb' 0 5) = [b] := by
  decide +kernel

/-- The bytes of a step do not depend on the configuration. -/
theorem encode_decodeSelect_congr (c c' : Config) (w : BitVec 5) :
    encode c (decodeSelect w) = encode c' (decodeSelect w) := by
  unfold decodeSelect
  split_ifs
  · rfl
  · rfl
  · split <;> rfl
  · rfl

/-- A step's bytes are the code that selects it. -/
theorem encode_decodeSelect (c : Config) (w : BitVec 5) : encode c (decodeSelect w) = selectByte w := by
  have hdefault : ∀ v : BitVec 5, encode default (decodeSelect v) = selectByte v := by decide
  rw [encode_decodeSelect_congr c default, hdefault]

theorem decodeSelect_wf : ∀ w : BitVec 5, (decodeSelect w).wf = true := by decide

theorem decodeSelect_tick : ∀ st : BitVec 4, st.toNat ≤ 9 → decodeSelect (st ++ 0#1) = .tick st := by decide

theorem decodeSelect_illegal101 : ∀ x : BitVec 2, decodeSelect (0b101#3 ++ x) = .faultIllegalState101 x := by decide

theorem decodeSelect_illegal11 : ∀ x : BitVec 3, decodeSelect (0b11#2 ++ x) = .faultIllegalState11 x := by decide

/-! ### Decode and encode agree -/

/-- Settles O1, by the row of the operation: multiplexer writes by their data byte, sensor writes by their command, the
steps by their select code. -/
theorem decodeOfEncodeIsTheOperation : Obligations.DecodeOfEncodeIsTheOperation := by
  intro c i hc hi
  obtain ⟨hT, hRh, hTH, hRhH⟩ := decodeSensor_commands hc
  cases i with
  | muxw0 | muxw1 | muxw2 | muxw3 | muxw4 | muxw5 | muxw6 | muxw7 | muxoff => exact decodeWrite_mux c _
  | trigT => exact (decodeWrite_sensor hc _).trans hT
  | trigRh => exact (decodeWrite_sensor hc _).trans hRh
  | trigTHold => exact (decodeWrite_sensor hc _).trans hTH
  | trigRhHold => exact (decodeWrite_sensor hc _).trans hRhH
  | poll => exact decodeRead_sensor c
  | crcCheck m l k => rfl
  | tick st => exact (decode_selectByte c _).trans (congrArg _ (decodeSelect_tick st (of_decide_eq_true hi)))
  | faultIllegalState101 x => exact (decode_selectByte c _).trans (congrArg _ (decodeSelect_illegal101 x))
  | faultIllegalState11 x => exact (decode_selectByte c _).trans (congrArg _ (decodeSelect_illegal11 x))
  | sIdle | sChSelected | sTTriggered | sTPolling | sTRead | sRhTriggered | sRhPolling | sRhRead | sDone | sFailed =>
    exact decode_selectByte c _

/-- A write frame that decodes is the one of its operation. -/
theorem decodeWrite_ok {c : Config} {a b : Byte} {i : Instr} (h : decodeWrite c a b = .ok i) :
    i.wf = true ∧ encode c i = [a, b] := by
  unfold decodeWrite at h
  split_ifs at h with hm hs
  · rw [hm]; exact decodeMux_ok h
  · rw [hs]; exact decodeSensor_ok h

/-- Settles O2, by the number of bytes: each length is one code space. -/
theorem decodedBytesAreTheEncoding : Obligations.DecodedBytesAreTheEncoding := by
  intro c bs i h
  match bs, h with
  | [b], h =>
    simp only [decode] at h
    split_ifs at h with hb
    cases h
    exact ⟨decodeSelect_wf _, .inl ((encode_decodeSelect c _).trans (selectByte_extract b hb))⟩
  | [a, b], h => exact (decodeWrite_ok h).imp_right .inl
  | [m, l, k], h =>
    cases h
    exact ⟨rfl, .inl rfl⟩
  | [a, m, l, k], h =>
    simp only [decode, decodeRead] at h
    split_ifs at h with ha
    cases h
    exact ⟨rfl, .inr ⟨rfl, m, l, k, by rw [ha]⟩⟩

/-- Settles O3: each number is evaluated. -/
theorem tableWordsDecode : Obligations.TableWordsDecode := by
  unfold Obligations.TableWordsDecode
  decide

/-! ### Records of the bus history -/

section
variable {c : Config} {r : BusRecord}

theorem decodeRecord_write {b : Byte} (hd : r.dir = .write) (hs : r.sent = [b]) :
    decodeRecord c r = decodeWrite c (addrByte r.addr .write) b := by
  unfold decodeRecord
  rw [hd, hs]

theorem decodeRecord_read (hd : r.dir = .read) (hs : r.sent = []) :
    decodeRecord c r = decodeRead c (addrByte r.addr .read) := by
  unfold decodeRecord
  rw [hd, hs]

/-- A write of no byte, or of more than one. -/
theorem decodeRecord_write_length (hd : r.dir = .write) (hs : r.sent.length ≠ 1) :
    decodeRecord c r = .error .notABlockOperation := by
  unfold decodeRecord
  split
  · next hb => simp [hb] at hs
  · next hr _ => simp [hd] at hr
  · rfl

/-- A read with something sent (log 28). -/
theorem decodeRecord_read_sent (hd : r.dir = .read) (hs : r.sent ≠ []) :
    decodeRecord c r = .error .notABlockOperation := by
  unfold decodeRecord
  split
  · next hw _ => simp [hd] at hw
  · next he => exact absurd he hs
  · rfl

end

/-- Settles O5, by the direction, the address and the bytes sent. -/
theorem busRecordDecodesByAddressAndData : Obligations.BusRecordDecodesByAddressAndData := by
  intro c r hc
  refine ⟨fun hd ha b hs => ?_, fun hd ha b hs => ?_, fun hd ha hs => ?_, fun hd ha => ?_, fun hd hm ha => ?_,
    decodeRecord_write_length, decodeRecord_read_sent⟩
  · rw [decodeRecord_write hd hs, ha, decodeWrite_mux]
    refine ⟨fun ch hb => hb ▸ decodeMux_muxMask ch, fun hb => hb ▸ rfl, fun hz hch => ?_⟩
    obtain ⟨ch, hb⟩ | hb | he := decodeMux_cases b
    · exact absurd hb (hch ch)
    · exact absurd hb hz
    · exact he
  · rw [decodeRecord_write hd hs, ha, decodeWrite_sensor hc]
    obtain ⟨hT, hRh, hTH, hRhH⟩ := decodeSensor_commands hc
    exact ⟨fun hb => hb ▸ hT, fun hb => hb ▸ hRh, fun hb => hb ▸ hTH, fun hb => hb ▸ hRhH, decodeSensor_other⟩
  · rw [decodeRecord_read hd hs, ha, decodeRead_sensor]
  · by_cases hs : r.sent = []
    · rw [decodeRecord_read hd hs, decodeRead_elsewhere ha]
    · exact decodeRecord_read_sent hd hs
  · by_cases hs : r.sent.length = 1
    · obtain ⟨b, hb⟩ := List.length_eq_one_iff.mp hs
      rw [decodeRecord_write hd hb, decodeWrite_elsewhere hm ha]
    · exact decodeRecord_write_length hd hs

/-! ### The fields of a received word -/

theorem wordOf_toNat (m l : Byte) : (wordOf m l).toNat = m.toNat * 256 + l.toNat := by
  rw [wordOf, BitVec.toNat_append, ← Nat.shiftLeft_add_eq_or_of_lt l.isLt, Nat.shiftLeft_eq]

/-- Clearing the low two bits is shifting them out and back. -/
theorem codeOf_eq_shift (w : Word) : codeOf w = (w >>> 2) <<< 2 := by
  ext i hi
  interval_cases i <;> simp [codeOf]

theorem codeOf_toNat (w : Word) : (codeOf w).toNat = w.toNat / 4 * 4 := by
  have hw := w.isLt
  rw [codeOf_eq_shift, BitVec.toNat_shiftLeft, BitVec.toNat_ushiftRight, Nat.shiftLeft_eq, Nat.shiftRight_eq_div_pow]
  omega

theorem statusOf_toNat (w : Word) : (statusOf w).toNat = w.toNat % 4 := by
  rw [statusOf, BitVec.extractLsb'_toNat, Nat.shiftRight_zero]

/-- Settles O6: code and status are the quotient and the remainder by 4. -/
theorem wordFields : Obligations.WordFields := by
  refine fun m l => ⟨wordOf_toNat m l, fun w => ⟨codeOf_toNat w, statusOf_toNat w, ?_⟩⟩
  rw [codeOf_toNat, statusOf_toNat]
  omega

end Sys2Proof.Machine
end

section
/-! What a step runs (spec/44_acquisition.md R190; spec/30_encoding.md R84): the operation its bytes decode to, the
step selected by `st` and `wait`, and a row of the opcode table that was placed. -/

namespace Sys2Proof.Machine

/-! ### The step of the decoded operation -/

section
variable {s : State} (hwf : s.cfg.wf = true)
include hwf

theorem step_of_decode {i : Instr} (h : decode s.cfg s.fetchBytes = .ok i) (hi : i ≠ .muxoff) :
    step s = exec i s.consume := by
  unfold step
  rw [hwf, fetch_of_decode h hi]

theorem step_of_muxoff (h : decode s.cfg s.fetchBytes = .ok .muxoff) : step s = .refused .muxoffGiven := by
  have hf : fetch s = .error .muxoffGiven := by
    unfold fetch
    rw [h]
    rfl
  unfold step
  rw [hwf, hf]

theorem step_of_undecodable {e : DecodeError} (h : decode s.cfg s.fetchBytes = .error e) :
    step s = .refused (.undecodable e) := by
  have hf : fetch s = .error (.undecodable e) := by
    unfold fetch
    rw [h]
  unfold step
  rw [hwf, hf]

end

theorem State.fetchBytes_presented {s : State} (h : s.presented ≠ []) : s.fetchBytes = s.presented := by
  unfold State.fetchBytes
  split
  · next he => exact absurd he h
  · next he => exact he.symm

/-- The waiting flag of the select code, in the form of the statements. -/
theorem State.selectByte_selectCode (s : State) :
    selectByte s.selectCode = [(s.st ++ BitVec.ofBool (decide (s.wait = 0))).setWidth 8] := rfl

/-- Settles O7: the bytes are those fetched, and each answer of `decode` has its answer of `step`. -/
theorem stepRunsTheDecodedOperation : Obligations.StepRunsTheDecodedOperation := by
  intro s bs hwf hbs
  have hfetch : s.fetchBytes = bs := by
    obtain ⟨hp, rfl⟩ | ⟨hp, rfl⟩ := hbs
    · rw [State.fetchBytes_free hp, State.selectByte_selectCode]
    · exact State.fetchBytes_presented hp
  subst hfetch
  exact ⟨fun _ => step_of_decode hwf, step_of_muxoff hwf, fun _ => step_of_undecodable hwf⟩

/-! ### The step selected by `st` and `wait` -/

section
variable {s : State} (hwf : s.cfg.wf = true) (hp : s.presented = [])
include hwf hp

/-- An illegal state faults, whatever `wait` holds (10_state.md R21). -/
theorem step_illegal (hs : 10 ≤ s.st.toNat) : step s = .fault .illegalState := by
  rw [step_free hwf hp, State.selectCode, decodeSelect_append]
  by_cases h12 : 12 ≤ s.st.toNat
  · rw [if_pos h12]; rfl
  · rw [if_neg h12, if_pos hs]; rfl

/-- With nothing to wait for, the select code is the state with bit 0 set. -/
theorem step_ready (hw : s.wait = 0) {x : BitVec 4} (hs : s.st = x) : step s = exec (decodeSelect (x ++ 1#1)) s := by
  rw [step_free hwf hp, State.selectCode, hs, hw]
  rfl

end

/-- Settles O8: the three cases of the selection. -/
theorem stepSelectionByStateAndWait : Obligations.StepSelectionByStateAndWait := by
  intro s hwf hp
  refine ⟨step_illegal hwf hp, step_tick hwf hp, fun hw => ?_⟩
  have hready {x : BitVec 4} : s.st = x → step s = exec (decodeSelect (x ++ 1#1)) s := step_ready hwf hp hw
  exact ⟨hready, hready, hready, hready, hready, hready, hready, hready, hready, hready⟩

/-! ### Placing bytes -/

section
variable (s : State)

/-- The state is set so that the code selected is the one asked for. -/
theorem State.withSelect_selectCode (w : BitVec 5) : (s.withSelect w).selectCode = w := by
  have hw : ((s.withSelect w).wait == 0) = w.getLsbD 0 := by
    unfold State.withSelect
    cases w.getLsbD 0 <;> simp
  have hsplit : ∀ v : BitVec 5, v.extractLsb' 1 4 ++ BitVec.ofBool (v.getLsbD 0) = v := by decide
  rw [State.selectCode, hw]
  exact hsplit w

theorem State.withBytes_of_length_ne_one {bs : List Byte} (h : bs.length ≠ 1) :
    s.withBytes bs = { s with presented := bs } := by
  unfold State.withBytes
  split
  · exact absurd rfl h
  · rfl

/-- The bytes placed are the bytes of the next step. -/
theorem State.withBytes_fetchBytes {bs : List Byte} (h : bs ≠ []) : (s.withBytes bs).fetchBytes = bs := by
  unfold State.withBytes
  split
  · next b =>
    split_ifs with hb
    · rw [State.fetchBytes_free rfl, State.withSelect_selectCode, selectByte_extract b hb]
    · exact State.fetchBytes_presented (List.cons_ne_nil b [])
  · exact State.fetchBytes_presented h

/-- Placing bytes writes nothing but `st`, `wait` and the presented bytes. -/
theorem State.withBytes_frame (bs : List Byte) :
    { s.withBytes bs with st := s.st, wait := s.wait, presented := s.presented } = s := by
  unfold State.withBytes
  split
  · split_ifs <;> rfl
  · rfl

theorem State.withBytes_cfg (bs : List Byte) : (s.withBytes bs).cfg = s.cfg :=
  (congrArg State.cfg (s.withBytes_frame bs) :)

end

theorem decode_of_decodeTableWord {nbits w : Nat} {i : Instr} (h : decodeTableWord nbits w = some i) :
    decode Config.table (tableBytes nbits w) = .ok i := by
  unfold decodeTableWord at h
  split at h
  · next hd => rw [hd, Option.some.inj h]
  · cases h

/-- A table number's bytes decode, under the placed configuration, to what the number decodes to. -/
theorem State.withFetchWord_decode {nbits w : Nat} {i : Instr} (s : State) (h : decodeTableWord nbits w = some i) :
    decode (s.withFetchWord nbits w).cfg (s.withFetchWord nbits w).fetchBytes = .ok i := by
  have hd := decode_of_decodeTableWord h
  have hne : tableBytes nbits w ≠ [] := fun he => by rw [he] at hd; cases hd
  rw [State.withFetchWord, State.withTableWord, State.withBytes_cfg, State.withBytes_fetchBytes _ hne,
    decode_withTableDevices, hd]

/-- Settles O12: the next step's bytes decode to the row's operation, and placing them has its frame. -/
theorem placedRowRunsNext : Obligations.PlacedRowRunsNext := by
  intro s nbits w i hwf h
  have hcfg : (s.withFetchWord nbits w).cfg = s.cfg.withTableDevices := State.withBytes_cfg _ _
  have hwf' : (s.withFetchWord nbits w).cfg.wf = true := hcfg ▸ Config.withTableDevices_wf hwf
  have hd := s.withFetchWord_decode h
  refine ⟨step_of_decode hwf' hd, fun hi => step_of_muxoff hwf' (hi ▸ hd), ?_, hcfg, fun hlen => ?_⟩
  · have hframe := State.withBytes_frame { s with cfg := s.cfg.withTableDevices } (tableBytes nbits w)
    exact congrArg (fun t : State => { t with cfg := s.cfg }) hframe
  · rw [State.withFetchWord, State.withTableWord, State.withBytes_of_length_ne_one _ hlen]
    exact ⟨rfl, rfl⟩

end Sys2Proof.Machine
end

section
/-! The error registers change only by a failure with a legal pair of code and phase (spec/30_encoding.md R88). -/

namespace Sys2Proof.Machine

/-- From `s` to `t`, the error registers are kept or a failure with a legal pair is taken. -/
def KeepsOrFails (s t : State) : Prop :=
  (t.errCode = s.errCode ∧ t.errPhase = s.errPhase) ∨
    ∃ b c p, legalPair c p = true ∧ t = State.raiseFail b c p

theorem KeepsOrFails.failed {s b : State} {c : ErrCode} {p : Phase} (h : legalPair c p = true) :
    KeepsOrFails s (b.raiseFail c p) :=
  .inr ⟨b, c, p, h, rfl⟩

/-- The legal pairs as numbers. -/
theorem legalPair_bits {c : ErrCode} {p : Phase} (h : legalPair c p = true) :
    (c.bits.toNat, p.bits.toNat) ∈ [(1, 0), (1, 1), (1, 4), (2, 2), (2, 5), (3, 3), (3, 6)] := by
  revert h
  cases c <;> cases p <;> decide

/-! ### The phases of a kind -/

theorem legalPair_trigPhase (k : Kind) : legalPair .noAck (trigPhase k) = true := by cases k <;> rfl

theorem legalPair_pollPhase (k : Kind) : legalPair .timeout (pollPhase k) = true := by cases k <;> rfl

theorem legalPair_readPhase (k : Kind) : legalPair .checksumMismatch (readPhase k) = true := by cases k <;> rfl

/-! ### The operations -/

section
variable (s : State)

theorem State.selectChannel_keepsOrFails (ch : Channel) : KeepsOrFails s (s.selectChannel ch) := by
  unfold State.selectChannel
  split
  · exact .inl ⟨rfl, rfl⟩
  · exact .failed rfl

theorem State.triggerOrFail_keepsOrFails (k : Kind) : KeepsOrFails s (s.triggerOrFail k) := by
  unfold State.triggerOrFail
  split
  · exact .inl ⟨rfl, rfl⟩
  · exact .failed (legalPair_trigPhase k)

theorem State.selectStep_keepsOrFails : KeepsOrFails s s.selectStep := by
  unfold State.selectStep
  split
  · exact .inl ⟨rfl, rfl⟩
  · exact .failed rfl

theorem State.pollingStep_keepsOrFails (k : Kind) (y : BitVec 4) : KeepsOrFails s (s.pollingStep k y) := by
  unfold State.pollingStep
  split
  · exact .inl ⟨s.pollOnce_errCode, s.pollOnce_errPhase⟩
  · split
    · exact .failed (legalPair_pollPhase k)
    · exact .inl ⟨s.pollOnce_errCode, s.pollOnce_errPhase⟩

theorem State.storeAndTriggerRh_keepsOrFails : KeepsOrFails s s.storeAndTriggerRh := by
  unfold State.storeAndTriggerRh
  split
  · exact .inl ⟨rfl, rfl⟩
  · exact .failed rfl

end

/-- Every operation that answers keeps the error registers or takes a failure with a legal pair. -/
theorem exec_keepsOrFails {i : Instr} {s t : State} (h : exec i s = .next t) : KeepsOrFails s t := by
  cases i with
  | muxw0 | muxw1 | muxw2 | muxw3 | muxw4 | muxw5 | muxw6 | muxw7 => cases h; exact s.selectChannel_keepsOrFails _
  | trigT | trigRh => cases h; exact s.triggerOrFail_keepsOrFails _
  | poll => cases h; exact .inl ⟨s.pollOnce_errCode, s.pollOnce_errPhase⟩
  | crcCheck m l k =>
    cases h; split
    · exact .inl ⟨rfl, rfl⟩
    · exact .failed (legalPair_readPhase _)
  | sIdle => cases h; exact s.startIteration.selectStep_keepsOrFails
  | sChSelected =>
    cases h; split
    · exact .inl ⟨rfl, rfl⟩
    · exact .failed rfl
  | sTPolling | sRhPolling => cases h; exact s.pollingStep_keepsOrFails _ _
  | sTRead =>
    cases h; split
    · exact s.storeAndTriggerRh_keepsOrFails
    · exact .failed rfl
  | sRhRead =>
    cases h; split
    · exact .inl ⟨rfl, rfl⟩
    · exact .failed rfl
  | muxoff | tick | sTTriggered | sRhTriggered | sDone | sFailed => cases h; exact .inl ⟨rfl, rfl⟩
  | trigTHold | trigRhHold | faultIllegalState101 | faultIllegalState11 => cases h

/-- Settles O33: a failure goes to FAILED with `wait` at zero and the bits of its pair. -/
theorem errorsAreLegalPairs : Obligations.ErrorsAreLegalPairs := by
  intro i s t h
  refine (exec_keepsOrFails h).imp_right ?_
  rintro ⟨b, c, p, hlegal, rfl⟩
  exact ⟨rfl, rfl, legalPair_bits hlegal⟩

end Sys2Proof.Machine
end

section
/-! The multiplexer writer (spec/40_mux_writer.md): what `MUXW` and `MUXOFF` do to the multiplexer, run on their own and
repeated. -/

namespace Sys2Proof.Machine

/-! ### A multiplexer write and its two outcomes (R102, R103) -/

section
variable {s : State}

/-- The write by its response. -/
theorem State.muxWrite_of_muxResp {b : Byte} {r : Resp} (h : s.muxResp b = r) :
    s.muxWrite b = { afterWrite s s.cfg.muxAddr b r with muxreg := if r = .ack then b else s.answer.mux } := by
  subst h
  rfl

theorem State.muxResp_nack_of_not_accepts (h : ¬ muxAccepts s) (b : Byte) : s.muxResp b = .nack :=
  resp_ne_ack.mp ((s.muxResp_ack_iff b).not.mpr h)

theorem State.muxWrite_of_accepts (h : muxAccepts s) (b : Byte) :
    s.muxWrite b = { afterWrite s s.cfg.muxAddr b .ack with muxreg := b } :=
  State.muxWrite_of_muxResp ((s.muxResp_ack_iff b).mpr h)

theorem State.muxWrite_of_not_accepts (h : ¬ muxAccepts s) (b : Byte) :
    s.muxWrite b = { afterWrite s s.cfg.muxAddr b .nack with muxreg := s.answer.mux } :=
  State.muxWrite_of_muxResp (State.muxResp_nack_of_not_accepts h b)

end

/-- The multiplexer holds the mask after an acknowledged `MUXW`, a draw after a refused one; the failure that the refused
one takes does not touch it. -/
@[simp] theorem State.selectChannel_muxreg (s : State) (ch : Channel) :
    (s.selectChannel ch).muxreg = if s.muxResp (muxMask ch) = .ack then muxMask ch else s.answer.mux := by
  unfold State.selectChannel
  split <;> rfl

/-! ### The rows -/

/-- The eight `MUXW` rows are one operation of the channel (30_encoding.md R83, R93). -/
theorem exec_muxw (ch : Channel) (s : State) : exec (Instr.muxw ch) s = .next (s.selectChannel ch) := by
  have hcases : ∀ k : Channel, k = 0 ∨ k = 1 ∨ k = 2 ∨ k = 3 ∨ k = 4 ∨ k = 5 ∨ k = 6 ∨ k = 7 := by decide
  obtain rfl | rfl | rfl | rfl | rfl | rfl | rfl | rfl := hcases ch <;> rfl

/-- Settles O4: the eight masks are evaluated. -/
theorem muxMaskIsOneHot : Obligations.MuxMaskIsOneHot := by
  unfold Obligations.MuxMaskIsOneHot
  decide

/-- Settles O23: each listed byte is the mask of its row's channel (R73). -/
theorem muxwWritesItsMask : Obligations.MuxwWritesItsMask := by
  intro s i b hrow
  obtain ⟨ch, -, hib⟩ : ∃ ch ∈ ([0, 1, 2, 3, 4, 5, 6, 7] : List Channel), (Instr.muxw ch, muxMask ch) = (i, b) :=
    List.mem_map.mp hrow
  cases hib
  rw [exec_muxw]
  refine ⟨fun h => ?_, fun h => ?_⟩
  · rw [State.selectChannel_ack ((s.muxResp_ack_iff _).mpr h), State.muxWrite_of_accepts h]
  · rw [State.selectChannel_nack (State.muxResp_nack_of_not_accepts h _), State.muxWrite_of_not_accepts h]
    rfl

/-- Settles O24: the write of 0x00 is all the row does. -/
theorem muxoffDisconnectsAll : Obligations.MuxoffDisconnectsAll :=
  fun _ =>
    ⟨fun h => congrArg _ (State.muxWrite_of_accepts h 0),
      fun h => congrArg _ (State.muxWrite_of_not_accepts h 0)⟩

/-! ### Repeated writes -/

/-- Repeating starts with one `MUXW`. -/
theorem repeatExec_muxw_succ (k : Channel) (n : Nat) (s : State) :
    repeatExec (Instr.muxw k) (n + 1) s = repeatExec (Instr.muxw k) n (s.selectChannel k) := by
  rw [repeatExec, exec_muxw]

/-- Settles O28, by induction on the number of writes before the last: they only decide where the last one starts. -/
theorem repeatedMuxwIsIdempotent : Obligations.RepeatedMuxwIsIdempotent := by
  intro k n
  induction n with
  | zero =>
    intro s t r ht hlast hack
    rw [repeatExec_muxw_succ] at ht
    cases ht
    rw [State.selectChannel_busHist, List.getLast?_concat] at hlast
    cases hlast
    exact ⟨(s.selectChannel_muxreg k).trans (if_pos hack), by simp⟩
  | succ n ih =>
    intro s t r ht hlast hack
    rw [repeatExec_muxw_succ] at ht
    obtain ⟨hmux, hlen⟩ := ih _ t r ht hlast hack
    refine ⟨hmux, ?_⟩
    rw [hlen, State.selectChannel_busHist, List.length_append, List.length_singleton]
    omega

end Sys2Proof.Machine
end

section
/-! The bus history of the block (spec/40_mux_writer.md R104; spec/30_encoding.md R80, R81, R91): a step appends no record
but a channel select, or, with the iteration's channel selected, a trigger or a poll. -/

namespace Sys2Proof.Machine

/-! ### The records the block makes -/

/-- A record the block makes in a step from `s`. -/
inductive MadeFrom (s : State) : BusRecord → Prop
  | select (ch : Channel) (resp : Resp) : MadeFrom s ⟨.write, s.cfg.muxAddr, [muxMask ch], resp, [], s.muxreg⟩
  | trigger (k : Kind) (resp : Resp) (hs : inIteration s.st) :
      MadeFrom s ⟨.write, s.cfg.sensorAddr, [triggerCmd s.cfg k], resp, [], s.muxreg⟩
  | poll (resp : Resp) (recv : List Byte) (hs : inIteration s.st) :
      MadeFrom s ⟨.read, s.cfg.sensorAddr, [], resp, recv, s.muxreg⟩

theorem recordIssued_of_decodeRecord {c : Config} {r : BusRecord} {i : Instr} (hd : decodeRecord c r = .ok i)
    (hi : issuedByBlock i = true) : recordIssued c r = true := by
  unfold recordIssued
  rw [hd]
  exact hi

theorem issuedByBlock_muxw : ∀ ch : Channel, issuedByBlock (Instr.muxw ch) = true := by decide

/-- The command of a kind decodes to a trigger that does not hold the master (30_encoding.md R83). -/
theorem decodeSensor_triggerCmd {c : Config} (h : c.wf = true) (k : Kind) :
    ∃ i, decodeSensor c (triggerCmd c k) = .ok i ∧ issuedByBlock i = true := by
  obtain ⟨hT, hRh, -, -⟩ := decodeSensor_commands h
  cases k with
  | temperature => exact ⟨.trigT, hT, rfl⟩
  | humidity => exact ⟨.trigRh, hRh, rfl⟩

section
variable {s : State} {r : BusRecord}

/-- What the block makes decodes to what the block issues. -/
theorem MadeFrom.issued (h : MadeFrom s r) (hwf : s.cfg.wf = true) : recordIssued s.cfg r = true := by
  cases h with
  | select ch resp =>
    refine recordIssued_of_decodeRecord ?_ (issuedByBlock_muxw ch)
    rw [decodeRecord_write rfl rfl, decodeWrite_mux, decodeMux_muxMask]
  | trigger k resp hs =>
    obtain ⟨i, hd, hi⟩ := decodeSensor_triggerCmd hwf k
    refine recordIssued_of_decodeRecord ?_ hi
    rw [decodeRecord_write rfl rfl, decodeWrite_sensor hwf, hd]
  | poll resp recv hs =>
    refine recordIssued_of_decodeRecord (i := .poll) ?_ rfl
    rw [decodeRecord_read rfl rfl, decodeRead_sensor]

/-- A sensor record is made only in the iteration, while `MUXREG` is as it stands there. -/
theorem MadeFrom.sensor (h : MadeFrom s r) (hwf : s.cfg.wf = true) (ha : r.addr = s.cfg.sensorAddr) :
    inIteration s.st ∧ r.muxAtIssue = s.muxreg := by
  cases h with
  | select ch resp => exact absurd ha (devices_ne hwf)
  | trigger k resp hs => exact ⟨hs, rfl⟩
  | poll resp recv hs => exact ⟨hs, rfl⟩

/-- Within the list, the index names a configured channel (10_state.md R20). -/
theorem channelAt_configured {c : Config} {n : Nat} (h : n < c.channels.length) :
    ∃ m ∈ c.channels, channelAt c n = BitVec.ofNat 3 m := by
  refine ⟨c.channels[n], List.getElem_mem h, ?_⟩
  unfold channelAt
  rw [List.getElem?_eq_getElem h]

/-- A sensor record made where the invariant holds is attributed to a configured channel (40_mux_writer.md R104). -/
theorem MadeFrom.attributed (h : MadeFrom s r) (hinv : BlockInv s) (ha : r.addr = s.cfg.sensorAddr) :
    ∃ n ∈ s.cfg.channels, attributedTo s.cfg (BitVec.ofNat 3 n) r := by
  obtain ⟨hs, hmux⟩ := h.sensor hinv.free.1 ha
  obtain ⟨hch, hmask⟩ := hinv.selected hs
  obtain ⟨n, hn, hconf⟩ := channelAt_configured hinv.idxInRange
  exact ⟨n, hn, ha, by rw [hmux, hmask, hch, hconf]⟩

end

/-! ### What a step appends -/

/-- From `s` to `t` the bus history is kept, or one record of the block's own is appended. -/
def AppendsOwnRecord (s t : State) : Prop :=
  t.busHist = s.busHist ∨ ∃ r, MadeFrom s r ∧ t.busHist = s.busHist ++ [r]

theorem AppendsOwnRecord.pollingStep {s : State} (hs : inIteration s.st) (k : Kind) (y : BitVec 4) :
    AppendsOwnRecord s (s.pollingStep k y) :=
  .inr ⟨_, .poll _ _ hs, (s.pollingStep_busHist k y).trans s.pollOnce_busHist⟩

/-- A step of the free block, by the step that runs. -/
theorem step_appendsOwnRecord {s t : State} (hfree : s.Free) (ht : step s = .next t) : AppendsOwnRecord s t := by
  obtain ⟨-, hx⟩ | ⟨-, -, hx⟩ | ⟨-, hx⟩ := step_cases hfree.1 hfree.2
  · cases hx.symm.trans ht
  · cases hx.symm.trans ht
    exact .inl rfl
  obtain ⟨-, hx⟩ | ⟨hs, hx⟩ | ⟨-, hx⟩ | ⟨hs, hx⟩ | ⟨hs, hx⟩ | ⟨-, hx⟩ | ⟨hs, hx⟩ | ⟨-, hx⟩ | ⟨-, hx⟩ | ⟨-, hx⟩ := hx <;>
    cases hx.symm.trans ht
  · exact .inr ⟨_, .select _ _, s.startIteration.selectStep_busHist⟩
  · have hi : inIteration s.st := inIteration_of_unpolled (by rw [hs]; decide)
    split <;> exact .inr ⟨_, .trigger .temperature _ hi, s.trigger_busHist _⟩
  · exact .inl rfl
  · exact .pollingStep (hs ▸ inIteration_pollingSt .temperature) _ _
  · have hi : inIteration s.st := inIteration_of_unpolled (by rw [hs]; decide)
    split
    · exact .inr ⟨_, .trigger .humidity _ hi, s.storeAndTriggerRh_busHist⟩
    · exact .inl rfl
  · exact .inl rfl
  · exact .pollingStep (hs ▸ inIteration_pollingSt .humidity) _ _
  · split <;> exact .inl rfl
  · exact .inl rfl
  · exact .inl rfl

/-- Settles O51: the record a step appends is safe, and the configuration stays. -/
theorem stepKeepsTheBusHistorySafe : Obligations.StepKeepsTheBusHistorySafe := by
  intro s t hinv hsafe ht
  have hcfg : t.cfg = s.cfg :=
    (registersAreWrittenByTheirSteps _ s t ((step_free hinv.free.1 hinv.free.2).symm.trans ht)).1
  rw [hcfg]
  obtain hkept | ⟨r, hmade, happ⟩ := step_appendsOwnRecord hinv.free ht
  · rwa [hkept]
  · rw [happ]
    exact List.forall_mem_append.mpr
      ⟨hsafe, List.forall_mem_singleton.mpr ⟨hmade.issued hinv.free.1, hmade.attributed hinv⟩⟩

end Sys2Proof.Machine
end

section
/-! The sensor transactions run on their own (spec/41_sensor_protocol.md R120 to R126): the triggers, the hold-master
triggers, and the poll, each by the response it gets. -/

namespace Sys2Proof.Machine

section
variable {s : State}

theorem State.answer_of_cons {a : Answer} {as : List Answer} (h : s.answers = a :: as) : s.answer = a := by
  unfold State.answer
  rw [h]

/-! ### Responses of the sensor (20_memory.md R51, R53, R54) -/

section
variable (hc : s.cfg.muxAddr ≠ s.cfg.sensorAddr)
include hc

theorem State.trigResp_ack_iff (k : Kind) : s.trigResp k = .ack ↔ sensorAccepts s := by
  simp [State.trigResp_eq, respOf_ack, reaches_sensor _ hc, sensorAccepts, and_assoc]

theorem State.pollResp_ack_iff : s.pollResp = .ack ↔ sensorAnswers s := by
  simp [State.pollResp_eq, respOf_ack, reaches_sensor _ hc, sensorAnswers]

end

/-! ### A trigger and a poll, by the response -/

theorem State.trigger_of_trigResp {k : Kind} {r : Resp} (h : s.trigResp k = r) :
    s.trigger k = afterWrite s s.cfg.sensorAddr (triggerCmd s.cfg k) r := by
  subst h
  rfl

/-- An acknowledged poll captures the three bytes in the order received (30_encoding.md R76). -/
theorem State.pollOnce_ack (h : s.pollResp = .ack) :
    s.pollOnce =
      { afterRead s .ack [s.answer.m, s.answer.l, s.answer.c] with
        msb := s.answer.m, lsb := s.answer.l, chk := s.answer.c } := by
  have hr : s.readResp s.cfg.sensorAddr = .ack := h
  rw [State.pollOnce, if_pos h, State.busRead, hr]
  rfl

/-- A refused poll transfers no data (R126). -/
theorem State.pollOnce_nack (h : s.pollResp = .nack) : s.pollOnce = afterRead s .nack [] := by
  have hr : s.readResp s.cfg.sensorAddr = .nack := h
  rw [State.pollOnce, if_neg (resp_ne_ack.mpr h), State.busRead, hr]
  rfl

end

/-! ### The rows -/

/-- Settles O10. -/
theorem holdMasterTriggersRefused : Obligations.HoldMasterTriggersRefused :=
  fun _ => ⟨rfl, rfl⟩

/-- Settles O25: both triggers are one operation of the kind. -/
theorem triggersSendTheirCommand : Obligations.TriggersSendTheirCommand := by
  intro s hc
  refine ⟨fun h => ?_, fun h => ?_⟩
  · have hk (k : Kind) :
        s.triggerOrFail k = afterWrite s s.cfg.sensorAddr (triggerCmd s.cfg k) .ack := by
      have hr := (State.trigResp_ack_iff hc k).mpr h
      rw [State.triggerOrFail_ack hr, State.trigger_of_trigResp hr]
    exact ⟨congrArg _ (hk .temperature), congrArg _ (hk .humidity)⟩
  · have hk (k : Kind) : s.triggerOrFail k =
        (afterWrite s s.cfg.sensorAddr (triggerCmd s.cfg k) .nack).raiseFail .noAck (trigPhase k) := by
      have hr := resp_ne_ack.mp ((State.trigResp_ack_iff hc k).not.mpr h)
      rw [State.triggerOrFail_nack hr, State.trigger_of_trigResp hr]
    exact ⟨congrArg _ (hk .temperature), congrArg _ (hk .humidity)⟩

/-- Settles O26: the row is the poll alone. -/
theorem pollCapturesTheResponse : Obligations.PollCapturesTheResponse := by
  intro s hc
  refine ⟨fun h => ?_, fun h => ?_⟩
  · exact congrArg _ (State.pollOnce_ack ((State.pollResp_ack_iff hc).mpr h))
  · exact congrArg _ (State.pollOnce_nack (resp_ne_ack.mp ((State.pollResp_ack_iff hc).not.mpr h)))

end Sys2Proof.Machine
end

section
/-! Every word handed to the Sink was read on its channel with a valid checksum (spec/41_sensor_protocol.md R133): the
read steps alone store a word, `S_DONE` alone hands it on, and the histories that speak for it only grow. -/

namespace Sys2Proof.Machine

/-! ### What an operation stores and what it emits -/

/-- The events an operation appends to the sink history (44_acquisition.md R192, R200, R201). -/
def appendedEvents (i : Instr) (s : State) : List Event :=
  match i with
  | .sIdle => [.cycleStart (channelAt s.cfg s.idx)]
  | .sDone => [.reading s.ch s.tWord s.rhWord]
  | .sFailed => [.fail s.ch s.errCode s.errPhase]
  | _ => []

section
variable {i : Instr} {s t : State}

theorem dataPart_sinkHist : (dataPart i s).sinkHist = s.sinkHist ++ appendedEvents i s := by
  cases i with
  | sTRead | sRhRead => simp only [dataPart]; split <;> simp [appendedEvents]
  | _ => simp [dataPart, appendedEvents]

theorem exec_sinkHist (h : exec i s = .next t) : t.sinkHist = s.sinkHist ++ appendedEvents i s := by
  rw [(exec_endsIn h).frame]
  exact dataPart_sinkHist

theorem reading_mem_appendedEvents {ch : Channel} {w w' : Word} (h : Event.reading ch w w' ∈ appendedEvents i s) :
    i = .sDone ∧ ch = s.ch ∧ w = s.tWord ∧ w' = s.rhWord := by
  cases i with
  | sDone => simpa [appendedEvents] using h
  | _ => simp [appendedEvents] at h

/-- `S_T_READ` stores the word of a valid frame, and no other (R196). -/
theorem dataPart_sTRead_tWord (h : (dataPart .sTRead s).tWord ≠ s.tWord) :
    crcValid s.msb s.lsb s.chk = true ∧ (dataPart .sTRead s).tWord = wordOf s.msb s.lsb := by
  by_cases hv : crcValid s.msb s.lsb s.chk = true
  · exact ⟨hv, by simp [dataPart, hv]⟩
  · simp [dataPart, hv] at h

/-- `S_RH_READ` stores the word of a valid frame, and no other (R199). -/
theorem dataPart_sRhRead_rhWord (h : (dataPart .sRhRead s).rhWord ≠ s.rhWord) :
    crcValid s.msb s.lsb s.chk = true ∧ (dataPart .sRhRead s).rhWord = wordOf s.msb s.lsb := by
  by_cases hv : crcValid s.msb s.lsb s.chk = true
  · exact ⟨hv, by simp [dataPart, hv]⟩
  · simp [dataPart, hv] at h

end

/-- Settles O49: the words by the data part of the operation, the readings by the events it appends. -/
theorem onlyVerifiedWordsAreStored : Obligations.OnlyVerifiedWordsAreStored := by
  intro i s t h
  have hT : t.tWord = (dataPart i s).tWord := (congrArg State.tWord (exec_endsIn h).frame :)
  have hRh : t.rhWord = (dataPart i s).rhWord := (congrArg State.rhWord (exec_endsIn h).frame :)
  rw [hT, hRh, exec_sinkHist h, List.drop_left]
  refine ⟨fun hne => ?_, fun hne => ?_, fun _ _ _ => reading_mem_appendedEvents⟩
  · obtain rfl := dataPart_tWord hne
    exact ⟨rfl, dataPart_sTRead_tWord hne⟩
  · obtain rfl := dataPart_rhWord hne
    exact ⟨rfl, dataPart_sRhRead_rhWord hne⟩

/-! ### The histories that speak for a word -/

section
variable {c : Config} {h h' : List BusRecord} {k : Channel}

theorem verifiedOn.mono {w : Word} (hw : verifiedOn c h k w) (hsub : h ⊆ h') : verifiedOn c h' k w := by
  obtain ⟨r, hr, hrest⟩ := hw
  exact ⟨r, hsub hr, hrest⟩

/-- Captured bytes with a valid checksum are a verified word. -/
theorem capturedOn.verified {m l x : Byte} (hcap : capturedOn c h k m l x) (hv : crcValid m l x = true) :
    verifiedOn c h k (wordOf m l) := by
  obtain ⟨r, hr, hdir, hresp, hrecv, hk⟩ := hcap
  exact ⟨r, hr, m, l, x, hdir, hresp, hrecv, hk, hv, rfl⟩

end

/-- Every `READING` of the sink history was verified (R133). -/
def ReadingsVerified (s : State) : Prop :=
  ∀ k t rh, Event.reading k t rh ∈ s.sinkHist →
    verifiedOn s.cfg s.busHist k t ∧ verifiedOn s.cfg s.busHist k rh

section
variable {s t : State}

/-- In a state `y` only what is relied on there needs an argument: where `y` is known, the rest is discharged. -/
theorem ReadingsVerified.verified_of_st (h : ReadingsVerified s) (y : BitVec 4) (hs : s.st = y)
    (captured : y = St.tRead ∨ y = St.rhRead → capturedOn s.cfg s.busHist s.ch s.msb s.lsb s.chk :=
      by exact fun e => absurd e (by decide))
    (tWord : 5 ≤ y.toNat ∧ y.toNat ≤ 8 → verifiedOn s.cfg s.busHist s.ch s.tWord :=
      by exact fun e => absurd e (by decide))
    (rhWord : y = St.done → verifiedOn s.cfg s.busHist s.ch s.rhWord := by exact fun e => absurd e (by decide)) :
    Verified s := by
  subst hs
  exact ⟨captured, tWord, rhWord, h⟩

/-! ### A step of the free block -/

/-- Only the select code of `DONE` selects `S_DONE`. -/
theorem decodeSelect_eq_sDone : ∀ (st : BitVec 4) (z : Bool), decodeSelect (st ++ BitVec.ofBool z) = .sDone →
    st = St.done := by
  decide

/-- The configuration stays, and the bus history grows. -/
theorem exec_grows {i : Instr} (h : exec i s = .next t) : t.cfg = s.cfg ∧ s.busHist ⊆ t.busHist := by
  obtain ⟨rs, es, hb, -, -, -⟩ := exec_appendsAtMostOne h
  exact ⟨(registersAreWrittenByTheirSteps _ _ _ h).1, hb ▸ List.subset_append_left _ _⟩

section
variable (hinv : BlockInv s) (hv : Verified s)
include hinv hv

/-- The readings stay verified: the one that `S_DONE` appends is of the two words verified in `DONE`. -/
theorem Verified.readingsVerified_step (ht : step s = .next t) : ReadingsVerified t := by
  rw [step_free hinv.free.1 hinv.free.2] at ht
  obtain ⟨hcfg, hsub⟩ := exec_grows ht
  intro k w w' hmem
  rw [exec_sinkHist ht] at hmem
  rw [hcfg]
  obtain hold | hnew := List.mem_append.mp hmem
  · obtain ⟨hT, hRh⟩ := hv.readings k w w' hold
    exact ⟨hT.mono hsub, hRh.mono hsub⟩
  · obtain ⟨hi, rfl, rfl, rfl⟩ := reading_mem_appendedEvents hnew
    have hs : s.st = St.done := decodeSelect_eq_sDone _ _ hi
    exact ⟨(hv.tWord (by rw [hs]; decide)).mono hsub, (hv.rhWord hs).mono hsub⟩

/-- `S_T_POLLING` and `S_RH_POLLING` (R195, R198): an acknowledged poll is a sensor read on the selected channel, and it
returned the captured bytes. -/
theorem Verified.pollingStep {k : Kind} (hs : s.st = pollingSt k)
    (hread : ReadingsVerified (s.pollingStep k (readSt k))) : Verified (s.pollingStep k (readSt k)) := by
  have htWord (hk : k = .humidity) : verifiedOn s.cfg s.pollOnce.busHist s.ch s.tWord := by
    subst hk
    exact (hv.tWord (by rw [hs]; decide)).mono (by simp)
  cases hr : s.pollResp with
  | ack =>
    have hmux := (hinv.selected (hs ▸ inIteration_pollingSt k)).2
    have hcap : capturedOn s.cfg s.pollOnce.busHist s.ch s.answer.m s.answer.l s.answer.c :=
      ⟨_, by rw [State.pollOnce_busHist]; exact List.mem_concat_self, rfl, hr, if_pos hr, rfl, hmux⟩
    rw [State.pollingStep_ack hr] at hread ⊢
    exact hread.verified_of_st (readSt k) rfl
      (captured := fun _ => by simpa [hr] using hcap)
      (tWord := fun e => by simpa using htWord (by cases k <;> revert e <;> decide))
      (rhWord := fun e => absurd e (by cases k <;> decide))
  | nack =>
    by_cases hm : s.attempts + 1 = pollMax s.cfg k
    · rw [State.pollingStep_timeout hr hm] at hread ⊢
      exact hread.verified_of_st St.failed rfl
    · rw [State.pollingStep_again hr hm] at hread ⊢
      exact hread.verified_of_st (pollingSt k) (s.pollOnce_st.trans hs)
        (captured := fun e => absurd e (by cases k <;> decide))
        (tWord := fun e => by simpa using htWord (by cases k <;> revert e <;> decide))
        (rhWord := fun e => absurd e (by cases k <;> decide))

omit hinv in
/-- `S_T_READ` (R196): the word of a valid frame is the captured one. -/
theorem Verified.execSTRead (hs : s.st = St.tRead) (ht : execSTRead s = .next t) (hread : ReadingsVerified t) :
    Verified t := by
  cases ht
  split at hread
  · next hcrc =>
    rw [if_pos hcrc]
    cases hr : s.trigResp .humidity with
    | ack =>
      have hw := (hv.captured (.inl hs)).verified hcrc
      rw [State.storeAndTriggerRh_ack hr] at hread ⊢
      exact hread.verified_of_st St.rhTriggered rfl (tWord := fun _ => hw.mono (List.subset_append_left _ _))
    | nack =>
      rw [State.storeAndTriggerRh_nack hr] at hread ⊢
      exact hread.verified_of_st St.failed rfl
  · next hcrc =>
    rw [if_neg hcrc]
    exact hread.verified_of_st St.failed rfl

omit hinv in
/-- `S_RH_READ` (R199): the humidity word is the captured one, the temperature word stands. -/
theorem Verified.execSRhRead (hs : s.st = St.rhRead) (ht : execSRhRead s = .next t) (hread : ReadingsVerified t) :
    Verified t := by
  cases ht
  split at hread
  · next hcrc =>
    rw [if_pos hcrc]
    exact hread.verified_of_st St.done rfl
      (tWord := fun _ => hv.tWord (by rw [hs]; decide))
      (rhWord := fun _ => (hv.captured (.inr hs)).verified hcrc)
  · next hcrc =>
    rw [if_neg hcrc]
    exact hread.verified_of_st St.failed rfl

end

end

/-- Settles O52, by the step that runs: the readings are verified after every step, and a state that relies on captured
bytes or a word is entered with them read and checked. -/
theorem stepKeepsReadingsVerified : Obligations.StepKeepsReadingsVerified := by
  intro s t hinv hv ht
  have hread := hv.readingsVerified_step hinv ht
  obtain ⟨-, hx⟩ | ⟨-, -, hx⟩ | ⟨-, hx⟩ := step_cases hinv.free.1 hinv.free.2
  · cases hx.symm.trans ht
  · cases hx.symm.trans ht
    exact { hv with }
  obtain ⟨-, hx⟩ | ⟨-, hx⟩ | ⟨-, hx⟩ | ⟨hs, hx⟩ | ⟨hs, hx⟩ | ⟨hs, hx⟩ | ⟨hs, hx⟩ | ⟨hs, hx⟩ | ⟨-, hx⟩ | ⟨-, hx⟩ := hx
  · cases hx.symm.trans ht
    unfold State.selectStep at hread ⊢
    split at hread
    · exact hread.verified_of_st St.chSelected rfl
    · exact hread.verified_of_st St.failed rfl
  · cases hx.symm.trans ht
    split at hread
    · exact hread.verified_of_st St.tTriggered rfl
    · exact hread.verified_of_st St.failed rfl
  · cases hx.symm.trans ht
    exact hread.verified_of_st St.tPolling rfl
  · cases hx.symm.trans ht
    exact hv.pollingStep hinv (k := .temperature) hs hread
  · exact hv.execSTRead hs (hx.symm.trans ht) hread
  · cases hx.symm.trans ht
    exact hread.verified_of_st St.rhPolling rfl (tWord := fun _ => hv.tWord (by rw [hs]; decide))
  · cases hx.symm.trans ht
    exact hv.pollingStep hinv (k := .humidity) hs hread
  · exact hv.execSRhRead hs (hx.symm.trans ht) hread
  · cases hx.symm.trans ht
    exact hread.verified_of_st St.idle rfl
  · cases hx.symm.trans ht
    exact hread.verified_of_st St.idle rfl

end Sys2Proof.Machine
end

section
/-! The state machine runs the source's contracts (spec/41_sensor_protocol.md R134; spec/44_acquisition.md R202, R205,
R212). A contract leaves out `st` and `wait` (log 23): the machine at `x` with `w` ticks to wait stands for the contract's
state `u` as `u.inSt x w`. -/

namespace Sys2Proof.Machine

/-! ### The machine at a state of a contract -/

/-- The machine in state `x` with `w` ticks to wait, its other registers those of `u`. -/
def State.inSt (u : State) (x : BitVec 4) (w : Nat) : State := { u with st := x, wait := w }

theorem State.pollOnce_inSt (u : State) (x : BitVec 4) (w : Nat) : (u.inSt x w).pollOnce = u.pollOnce.inSt x w := by
  cases h : u.pollResp with
  | ack => rw [State.pollOnce_ack (s := u.inSt x w) h, State.pollOnce_ack h]; rfl
  | nack => rw [State.pollOnce_nack (s := u.inSt x w) h, State.pollOnce_nack h]; rfl

theorem run_cons {n : Nat} {s t v : State} (h : step s = .next t) (h' : run n t = .next v) :
    run (n + 1) s = .next v := by
  rw [Nat.add_comm]
  exact run_trans (run_one h) h'

section
variable {u : State} (hf : u.Free)
include hf

theorem step_inSt (x : BitVec 4) : step (u.inSt x 0) = exec (decodeSelect (x ++ 1#1)) (u.inSt x 0) :=
  step_ready (s := u.inSt x 0) hf.1 hf.2 rfl rfl

/-- A delay is a run of ticks (R191). -/
theorem run_ticks {x : BitVec 4} (hx : x.toNat ≤ 9) (w : Nat) : run w (u.inSt x w) = .next (u.inSt x 0) := by
  induction w with
  | zero => rfl
  | succ w ih => exact run_cons (step_tick (s := u.inSt x (w + 1)) hf.1 hf.2 hx w.succ_pos) ih

/-- A failure taken is reported by the next step (60_exceptions.md R236, R239). -/
theorem step_raiseFail (e : ErrCode × Phase) : step (u.raiseFail e.1 e.2) = .next (u.failIteration e) :=
  step_ready (s := u.raiseFail e.1 e.2) (x := St.failed) hf.1 hf.2 rfl rfl

/-! ### Select, trigger, check and report -/

/-- `S_IDLE` and the settling delay (R192). -/
theorem run_select_ack (hs : u.st = 0) (hw : u.wait = 0)
    (hr : u.startIteration.muxResp (muxMask u.startIteration.ch) = .ack) :
    run (u.cfg.settle + 1) u =
      .next ((u.startIteration.muxWrite (muxMask u.startIteration.ch)).inSt St.chSelected 0) := by
  have hstep : step u = .next u.startIteration.selectStep := step_ready hf.1 hf.2 hw hs
  rw [State.selectStep_ack hr] at hstep
  exact run_cons hstep (run_ticks (u := u.startIteration.muxWrite _) hf (by decide) _)

theorem step_select_nack (hs : u.st = 0) (hw : u.wait = 0)
    (hr : u.startIteration.muxResp (muxMask u.startIteration.ch) = .nack) :
    step u = .next ((u.startIteration.muxWrite (muxMask u.startIteration.ch)).raiseFail .noAck .select) := by
  have hstep : step u = .next u.startIteration.selectStep := step_ready hf.1 hf.2 hw hs
  rwa [State.selectStep_nack hr] at hstep

/-- `S_CH_SELECTED` (R193). -/
theorem step_chSelected_ack (hr : u.trigResp .temperature = .ack) :
    step (u.inSt St.chSelected 0) = .next ((u.trigger .temperature).inSt St.tTriggered 0) := by
  have hr' : (u.inSt St.chSelected 0).trigResp .temperature = .ack := hr
  refine (step_inSt hf _).trans ?_
  change execSChSelected _ = _
  rw [execSChSelected, hr']
  rfl

theorem step_chSelected_nack (hr : u.trigResp .temperature = .nack) :
    step (u.inSt St.chSelected 0) = .next ((u.trigger .temperature).raiseFail .noAck .trigT) := by
  have hr' : (u.inSt St.chSelected 0).trigResp .temperature = .nack := hr
  refine (step_inSt hf _).trans ?_
  change execSChSelected _ = _
  rw [execSChSelected, hr']
  rfl

/-- `S_T_READ` (R196): the check, and for a valid word the trigger of humidity. -/
theorem step_tRead_invalid (hv : ¬ crcValid u.msb u.lsb u.chk = true) :
    step (u.inSt St.tRead 0) = .next (u.raiseFail .checksumMismatch .readT) :=
  (step_inSt hf _).trans (congrArg _ (if_neg hv))

theorem step_tRead_valid (hv : crcValid u.msb u.lsb u.chk = true) :
    step (u.inSt St.tRead 0) = .next (u.inSt St.tRead 0).storeAndTriggerRh :=
  (step_inSt hf _).trans (congrArg _ (if_pos hv))

theorem step_tRead_ack (hv : crcValid u.msb u.lsb u.chk = true) (hr : u.trigResp .humidity = .ack) :
    step (u.inSt St.tRead 0) =
      .next (({ u with tWord := wordOf u.msb u.lsb }.trigger .humidity).inSt St.rhTriggered 0) :=
  (step_tRead_valid hf hv).trans (congrArg _ (State.storeAndTriggerRh_ack hr))

theorem step_tRead_nack (hv : crcValid u.msb u.lsb u.chk = true) (hr : u.trigResp .humidity = .nack) :
    step (u.inSt St.tRead 0) =
      .next (({ u with tWord := wordOf u.msb u.lsb }.trigger .humidity).raiseFail .noAck .trigRh) :=
  (step_tRead_valid hf hv).trans (congrArg _ (State.storeAndTriggerRh_nack hr))

/-- The end of an iteration that succeeds: the humidity word is stored and both words are reported (R199, R200). -/
def State.report (v : State) (w : Word) : State :=
  ({ v with rhWord := w }.emit (.reading v.ch v.tWord w)).toNextChannel

/-- `S_RH_READ` and `S_DONE` (R199, R200). -/
theorem step_rhRead_invalid (hv : ¬ crcValid u.msb u.lsb u.chk = true) :
    step (u.inSt St.rhRead 0) = .next (u.raiseFail .checksumMismatch .readRh) :=
  (step_inSt hf _).trans (congrArg _ (if_neg hv))

theorem run_rhRead_valid (hv : crcValid u.msb u.lsb u.chk = true) :
    run 2 (u.inSt St.rhRead 0) = .next (u.report (wordOf u.msb u.lsb)) := by
  have hread : step (u.inSt St.rhRead 0) =
      .next ({ u with rhWord := wordOf u.msb u.lsb }.inSt St.done 0) :=
    (step_inSt hf _).trans (congrArg _ (if_pos hv))
  exact run_cons hread (run_one (step_inSt (u := { u with rhWord := wordOf u.msb u.lsb }) hf St.done))

/-! ### Polling -/

/-- `S_T_TRIGGERED` and `S_RH_TRIGGERED` (R194, R197). -/
theorem step_triggered (k : Kind) :
    step (u.inSt (triggeredSt k) 0) = .next ({ u with attempts := 0 }.inSt (pollingSt k) u.cfg.pollInterval) := by
  cases k with
  | temperature => exact step_inSt hf _
  | humidity => exact step_inSt hf _

/-- One poll interval and one attempt (R195, R198). -/
theorem run_pollingStep (k : Kind) :
    run (u.cfg.pollInterval + 1) (u.inSt (pollingSt k) u.cfg.pollInterval) =
      .next ((u.inSt (pollingSt k) 0).pollingStep k (readSt k)) := by
  have hstep : step (u.inSt (pollingSt k) 0) = .next ((u.inSt (pollingSt k) 0).pollingStep k (readSt k)) := by
    cases k with
    | temperature => exact step_inSt hf _
    | humidity => exact step_inSt hf _
  exact run_trans (run_ticks hf (inIteration_pollingSt k |>.2.trans (by decide)) _) (run_one hstep)

end

/-- One poll attempt, counted, as the poll loop of R134 makes it. -/
def State.countedPoll (u : State) : State := { u.pollOnce with attempts := u.attempts + 1 }

section
variable {u : State} {k : Kind}

theorem State.countedPoll_cfg : u.countedPoll.cfg = u.cfg := u.pollOnce_cfg

theorem State.countedPoll_attempts : u.countedPoll.attempts = u.attempts + 1 := rfl

theorem State.Free.countedPoll (hf : u.Free) : u.countedPoll.Free :=
  ⟨(congrArg Config.wf u.pollOnce_cfg).trans hf.1, u.pollOnce_presented.trans hf.2⟩

theorem pollLoop_ack (hr : u.pollResp = .ack) (n : Nat) : pollLoop k (n + 1) u = (.ok (), u.countedPoll) := by
  rw [pollLoop, hr]
  rfl

theorem pollLoop_nack (hr : u.pollResp = .nack) (n : Nat) : pollLoop k (n + 1) u = pollLoop k n u.countedPoll := by
  rw [pollLoop, hr]
  rfl

theorem pollLoop_cfg (n : Nat) (u : State) : (pollLoop k n u).2.cfg = u.cfg := by
  induction n generalizing u with
  | zero => rfl
  | succ n ih =>
    cases hr : u.pollResp with
    | ack => rw [pollLoop_ack hr]; exact State.countedPoll_cfg
    | nack => rw [pollLoop_nack hr, ih]; exact State.countedPoll_cfg

theorem State.Free.pollLoop (hf : u.Free) (n : Nat) : (pollLoop k n u).2.Free := by
  induction n generalizing u with
  | zero => exact hf
  | succ n ih =>
    cases hr : u.pollResp with
    | ack => rw [pollLoop_ack hr]; exact hf.countedPoll
    | nack => rw [pollLoop_nack hr]; exact ih hf.countedPoll

/-- Where the machine is after a poll loop: at the read state, or in `FAILED` with the loop's error. -/
def afterPolling (k : Kind) : Contract Unit × State → State
  | (.ok (), v) => v.inSt (readSt k) 0
  | (.error e, v) => v.raiseFail e.1 e.2

section
variable {x : BitVec 4}

theorem pollingStep_inSt_ack (hr : u.pollResp = .ack) :
    (u.inSt x 0).pollingStep k (readSt k) = u.countedPoll.inSt (readSt k) 0 := by
  rw [State.pollingStep_ack (s := u.inSt x 0) hr, State.pollOnce_inSt]
  rfl

theorem pollingStep_inSt_timeout (hr : u.pollResp = .nack) (hm : u.attempts + 1 = pollMax u.cfg k) :
    (u.inSt x 0).pollingStep k (readSt k) = u.countedPoll.raiseFail .timeout (pollPhase k) := by
  rw [State.pollingStep_timeout (s := u.inSt x 0) hr hm, State.pollOnce_inSt]
  rfl

theorem pollingStep_inSt_again (hr : u.pollResp = .nack) (hm : u.attempts + 1 ≠ pollMax u.cfg k) :
    (u.inSt x 0).pollingStep k (readSt k) = u.countedPoll.inSt x u.cfg.pollInterval := by
  rw [State.pollingStep_again (s := u.inSt x 0) hr hm, State.pollOnce_inSt]
  rfl

end

/-- From a polling state the machine runs the poll loop of R134 with the rest of the budget: one interval and one attempt
per poll made. -/
theorem run_pollLoop (n : Nat) (hf : u.Free) (hn : u.attempts + (n + 1) = pollMax u.cfg k) :
    ∃ j ≤ n + 1, (pollLoop k (n + 1) u).2.attempts = u.attempts + j ∧
      run (j * (u.cfg.pollInterval + 1)) (u.inSt (pollingSt k) u.cfg.pollInterval) =
        .next (afterPolling k (pollLoop k (n + 1) u)) := by
  have hpoll := run_pollingStep hf k
  induction n generalizing u with
  | zero =>
    refine ⟨1, Nat.le_refl 1, ?_⟩
    rw [Nat.one_mul, hpoll]
    cases hr : u.pollResp with
    | ack => rw [pollLoop_ack hr, pollingStep_inSt_ack hr]; exact ⟨rfl, rfl⟩
    | nack => rw [pollLoop_nack hr, pollingStep_inSt_timeout hr hn]; exact ⟨rfl, rfl⟩
  | succ n ih =>
    cases hr : u.pollResp with
    | ack =>
      refine ⟨1, by omega, ?_⟩
      rw [Nat.one_mul, hpoll, pollLoop_ack hr, pollingStep_inSt_ack hr]
      exact ⟨rfl, rfl⟩
    | nack =>
      rw [pollingStep_inSt_again hr (by omega)] at hpoll
      have hf' := hf.countedPoll
      have hn' : u.countedPoll.attempts + (n + 1) = pollMax u.countedPoll.cfg k := by
        rw [State.countedPoll_cfg, State.countedPoll_attempts, ← hn]
        omega
      obtain ⟨j, hj, hatt, hrun⟩ := ih hf' hn' (run_pollingStep hf' k)
      rw [State.countedPoll_cfg] at hrun
      rw [pollLoop_nack hr]
      refine ⟨j + 1, by omega, ?_, ?_⟩
      · rw [hatt, State.countedPoll_attempts]
        omega
      · rw [Nat.succ_mul, Nat.add_comm]
        exact run_trans hpoll hrun

/-- From a triggered state the machine runs the poll loop with the whole budget, which is at least 1 (00_scope.md R8). -/
theorem run_polling (hf : u.Free) (k : Kind) {p : Contract Unit × State}
    (hp : pollLoop k (pollMax u.cfg k) { u with attempts := 0 } = p) :
    p.2.attempts ≤ pollMax u.cfg k ∧
      run (p.2.attempts * (u.cfg.pollInterval + 1) + 1) (u.inSt (triggeredSt k) 0) = .next (afterPolling k p) := by
  obtain ⟨n, hn⟩ := Nat.exists_eq_succ_of_ne_zero (pollMax_pos hf.1 k).ne'
  rw [hn] at hp
  obtain ⟨j, hj, hatt, hrun⟩ := run_pollLoop (u := { u with attempts := 0 }) (k := k) n hf
    ((Nat.zero_add _).trans hn.symm)
  rw [hp] at hatt hrun
  obtain rfl : j = p.2.attempts := by simpa using hatt.symm
  exact ⟨by omega, run_cons (step_triggered hf k) hrun⟩

end

/-! ### The contracts -/

/-- `t` is reached from `s` in at most `n` steps. -/
def ReachesWithin (n : Nat) (s t : State) : Prop := ∃ m ≤ n, run m s = .next t

section
variable {s t v : State} {m n : Nat}

theorem ReachesWithin.of_run (h : run m s = .next t) (hle : m ≤ n := by exact Nat.le_refl _) : ReachesWithin n s t :=
  ⟨m, hle, h⟩

theorem ReachesWithin.trans (h : ReachesWithin m s t) (h' : ReachesWithin n t v) : ReachesWithin (m + n) s v := by
  obtain ⟨l, hl, hrun⟩ := h
  obtain ⟨l', hl', hrun'⟩ := h'
  exact ⟨l + l', by omega, run_trans hrun hrun'⟩

theorem ReachesWithin.mono (h : ReachesWithin m s t) (hle : m ≤ n) : ReachesWithin n s t := by
  obtain ⟨l, hl, hrun⟩ := h
  exact ⟨l, hl.trans hle, hrun⟩

/-- A failure taken in one step is reported in the next. -/
theorem ReachesWithin.fail {c : ErrCode} {p : Phase} (h : step s = .next (v.raiseFail c p)) (hv : v.Free) :
    ReachesWithin 2 s (v.failIteration (c, p)) :=
  .of_run (run_cons h (run_one (step_raiseFail hv (c, p))))

end

/-- What `acquire` does after the humidity measurement. -/
def finishHumidity : Contract Word × State → State
  | (.error e, v) => v.failIteration e
  | (.ok w, v) => v.report w

/-- What `acquire` does after the temperature measurement. -/
def finishTemperature : Contract Word × State → State
  | (.error e, v) => v.failIteration e
  | (.ok w, v) => finishHumidity (measureContract .humidity { v with tWord := w })

theorem acquire_ack {s : State} (hr : s.startIteration.muxResp (muxMask s.startIteration.ch) = .ack) :
    acquire s = finishTemperature (measureContract .temperature
      (s.startIteration.muxWrite (muxMask s.startIteration.ch))) := by
  unfold State.startIteration at hr ⊢
  simp only [acquire, hr]
  rfl

theorem acquire_nack {s : State} (hr : s.startIteration.muxResp (muxMask s.startIteration.ch) = .nack) :
    acquire s = (s.startIteration.muxWrite (muxMask s.startIteration.ch)).failIteration (.noAck, .select) := by
  unfold State.startIteration at hr ⊢
  simp only [acquire, hr]

section
variable {u v : State} {k : Kind}

theorem measureContract_nack (hr : u.trigResp k = .nack) :
    measureContract k u = (.error (.noAck, trigPhase k), u.trigger k) := by
  rw [measureContract, hr]

/-- An acknowledged trigger is followed by the poll loop, and an answered poll by the check. -/
theorem measureContract_error (hr : u.trigResp k = .ack) {e : ErrCode × Phase}
    (hp : pollLoop k (pollMax u.cfg k) { u.trigger k with attempts := 0 } = (.error e, v)) :
    measureContract k u = (.error e, v) := by
  simp only [measureContract, hr, hp]

theorem measureContract_answered (hr : u.trigResp k = .ack)
    (hp : pollLoop k (pollMax u.cfg k) { u.trigger k with attempts := 0 } = (.ok (), v)) :
    measureContract k u = (checkCaptured k v, v) := by
  simp only [measureContract, hr, hp]

theorem checkCaptured_valid (hv : crcValid v.msb v.lsb v.chk = true) :
    checkCaptured k v = .ok (wordOf v.msb v.lsb) := if_pos hv

theorem checkCaptured_invalid (hv : ¬ crcValid v.msb v.lsb v.chk = true) :
    checkCaptured k v = .error (.checksumMismatch, readPhase k) := if_neg hv

/-- What the polling of one kind takes at most. -/
def pollingBound (c : Config) (k : Kind) : Nat := pollMax c k * (c.pollInterval + 1)

variable (hf : u.Free)
include hf

/-- After an acknowledged trigger the machine reaches the end of the polling, and the state there is again free. -/
theorem reaches_afterPolling (k : Kind) {p : Contract Unit × State}
    (hp : pollLoop k (pollMax u.cfg k) { u.trigger k with attempts := 0 } = p) :
    p.2.Free ∧ p.2.cfg = u.cfg ∧
      ReachesWithin (pollingBound u.cfg k + 1) ((u.trigger k).inSt (triggeredSt k) 0) (afterPolling k p) := by
  obtain ⟨hle, hrun⟩ := run_polling (u := u.trigger k) hf k hp
  subst hp
  exact ⟨State.Free.pollLoop (u := { u.trigger k with attempts := 0 }) hf _, pollLoop_cfg ..,
    .of_run hrun (Nat.add_le_add_right (Nat.mul_le_mul_right _ hle) 1)⟩

/-- From the triggered state of humidity to the end of the iteration (R197 to R201). -/
theorem reaches_finishHumidity (hr : u.trigResp .humidity = .ack) :
    ReachesWithin (pollingBound u.cfg .humidity + 3) ((u.trigger .humidity).inSt St.rhTriggered 0)
      (finishHumidity (measureContract .humidity u)) := by
  cases hp : pollLoop .humidity (pollMax u.cfg .humidity) { u.trigger .humidity with attempts := 0 } with
  | mk r v =>
    obtain ⟨hv, -, hpoll⟩ := reaches_afterPolling hf .humidity hp
    refine hpoll.trans (n := 2) ?_
    cases r with
    | error e =>
      rw [measureContract_error hr hp]
      exact .of_run (run_one (step_raiseFail hv e)) (by decide)
    | ok _ =>
      rw [measureContract_answered hr hp]
      by_cases hcrc : crcValid v.msb v.lsb v.chk = true
      · rw [checkCaptured_valid hcrc]
        exact .of_run (run_rhRead_valid hv hcrc)
      · rw [checkCaptured_invalid hcrc]
        exact .fail (step_rhRead_invalid hv hcrc) hv

/-- From the check of the temperature frame to the end of the iteration (R196 to R201). -/
theorem reaches_finishTemperature_of_tRead :
    ReachesWithin (pollingBound u.cfg .humidity + 4) (u.inSt St.tRead 0)
      (finishTemperature (checkCaptured .temperature u, u)) := by
  by_cases hcrc : crcValid u.msb u.lsb u.chk = true
  · rw [checkCaptured_valid hcrc]
    cases hr : u.trigResp .humidity with
    | nack =>
      rw [finishTemperature, measureContract_nack (u := { u with tWord := wordOf u.msb u.lsb }) hr]
      exact (ReachesWithin.fail (step_tRead_nack hf hcrc hr) hf).mono (by omega)
    | ack =>
      have hrest := reaches_finishHumidity (u := { u with tWord := wordOf u.msb u.lsb }) hf hr
      exact (ReachesWithin.trans (.of_run (run_one (step_tRead_ack hf hcrc hr))) hrest).mono (Nat.add_comm 1 _).le
  · rw [checkCaptured_invalid hcrc]
    exact (ReachesWithin.fail (step_tRead_invalid hf hcrc) hf).mono (by omega)

/-- From `CH_SELECTED` to the end of the iteration (R193 to R201). -/
theorem reaches_finishTemperature :
    ReachesWithin (pollingBound u.cfg .temperature + pollingBound u.cfg .humidity + 6) (u.inSt St.chSelected 0)
      (finishTemperature (measureContract .temperature u)) := by
  cases hr : u.trigResp .temperature with
  | nack =>
    rw [measureContract_nack hr]
    exact (ReachesWithin.fail (step_chSelected_nack hf hr) hf).mono (by omega)
  | ack =>
    cases hp : pollLoop .temperature (pollMax u.cfg .temperature) { u.trigger .temperature with attempts := 0 } with
    | mk r v =>
      obtain ⟨hv, hcfg, hpoll⟩ := reaches_afterPolling hf .temperature hp
      have htriggered := ReachesWithin.trans (.of_run (run_one (step_chSelected_ack hf hr))) hpoll
      cases r with
      | error e =>
        rw [measureContract_error hr hp]
        exact (htriggered.trans (.of_run (run_one (step_raiseFail hv e)))).mono (by omega)
      | ok _ =>
        rw [measureContract_answered hr hp]
        have hread := reaches_finishTemperature_of_tRead hv
        rw [hcfg] at hread
        exact (htriggered.trans hread).mono (by omega)

end

/-- Settles O55: the select, then the temperature and the humidity measurement. -/
theorem stateMachineRefinesTheContract : Obligations.StateMachineRefinesTheContract := by
  intro s hwf hp hs hw
  have hf : s.Free := ⟨hwf, hp⟩
  cases hr : s.startIteration.muxResp (muxMask s.startIteration.ch) with
  | nack =>
    rw [acquire_nack hr]
    have hfail := step_raiseFail (u := s.startIteration.muxWrite (muxMask s.startIteration.ch)) hf (.noAck, .select)
    refine ⟨2, by decide, ?_, run_cons (step_select_nack hf hs hw hr) (run_one hfail)⟩
    unfold iterationBound
    omega
  | ack =>
    rw [acquire_ack hr]
    have hselect := run_select_ack hf hs hw hr
    obtain ⟨n, hn, hrun⟩ := reaches_finishTemperature
      (u := s.startIteration.muxWrite (muxMask s.startIteration.ch)) hf
    refine ⟨s.cfg.settle + 1 + n, by omega, ?_, run_trans hselect hrun⟩
    simp only [State.muxWrite_cfg, State.startIteration_cfg, pollingBound, pollMax] at hn
    rw [iterationBound, Nat.add_mul]
    omega

end Sys2Proof.Machine
end

section
/-! Two iterations counted step by step (spec/44_acquisition.md R211 to R213): the well-behaved one of
spec/41_sensor_protocol.md R132, and the one whose sensor never answers a poll (R128; 60_exceptions.md R232). -/

namespace Sys2Proof.Machine

/-! ### The select and the triggers, acknowledged -/

/-- The state after an acknowledged select of `ch` (44_acquisition.md R192). -/
def State.selected (s : State) (ch : Channel) : State :=
  { s with
    ch := ch
    muxreg := muxMask ch
    busHist := s.busHist ++ [selectRecord s.cfg ch s.muxreg .ack]
    sinkHist := s.sinkHist ++ [.cycleStart ch]
    answers := s.answers.tail
    nAnswers := s.nAnswers + 1 }

/-- The state after an acknowledged trigger (41_sensor_protocol.md R120, R121). -/
def State.triggered (u : State) (k : Kind) : State := afterWrite u u.cfg.sensorAddr (triggerCmd u.cfg k) .ack

section
variable {s : State} {ch : Channel}

theorem run_select_accepted (hf : s.Free) (hs : s.st = 0) (hw : s.wait = 0) (hch : channelAt s.cfg s.idx = ch)
    (h : muxAccepts s) : run (s.cfg.settle + 1) s = .next ((s.selected ch).inSt St.chSelected 0) := by
  subst hch
  have hr := (State.muxResp_ack_iff s.startIteration (muxMask s.startIteration.ch)).mpr h
  rw [run_select_ack hf hs hw hr, State.muxWrite_of_accepts (s := s.startIteration) h]
  rfl

end

/-! ### Polls, with their answers -/

/-- The record of a refused poll. -/
def refusedPoll (u : State) : BusRecord := ⟨.read, u.cfg.sensorAddr, [], .nack, [], u.muxreg⟩

/-- The state after `n` refused polls (R126). -/
def State.refusedPolls (u : State) (n : Nat) : State :=
  { u with
    attempts := u.attempts + n
    busHist := u.busHist ++ List.replicate n (refusedPoll u)
    answers := u.answers.drop n
    nAnswers := u.nAnswers + n }

/-- The state after an answered poll (R125). -/
def State.answeredPoll (u : State) (a : Answer) : State :=
  { afterRead u .ack [a.m, a.l, a.c] with msb := a.m, lsb := a.l, chk := a.c, attempts := u.attempts + 1 }

section
variable {u : State} (hc : u.cfg.muxAddr ≠ u.cfg.sensorAddr) {k : Kind}
include hc

theorem State.countedPoll_refused {a : Answer} {as : List Answer} (ha : u.answers = a :: as)
    (hr : a.addrAck = false) : u.pollResp = .nack ∧ u.countedPoll = u.refusedPolls 1 := by
  have hn : ¬ sensorAnswers u := by simp [sensorAnswers, State.answer_of_cons ha, hr]
  have hresp := resp_ne_ack.mp ((State.pollResp_ack_iff hc).not.mpr hn)
  refine ⟨hresp, ?_⟩
  rw [State.countedPoll, State.pollOnce_nack hresp, State.refusedPolls, List.drop_one]
  rfl

theorem State.countedPoll_answered {a : Answer} {as : List Answer} (ha : u.answers = a :: as)
    (hr : a.addrAck = true) (hm : u.muxreg ≠ 0) : u.pollResp = .ack ∧ u.countedPoll = u.answeredPoll a := by
  have hn : sensorAnswers u := ⟨hm, by rw [State.answer_of_cons ha]; exact hr⟩
  have hresp := (State.pollResp_ack_iff hc).mpr hn
  refine ⟨hresp, ?_⟩
  rw [State.countedPoll, State.pollOnce_ack hresp, State.answer_of_cons ha]
  rfl

/-- Refused polls only use up attempts. -/
theorem pollLoop_refused {busy rest : List Answer} (ha : u.answers = busy ++ rest)
    (hbusy : ∀ a ∈ busy, a.addrAck = false) (left : Nat) :
    pollLoop k (busy.length + left) u = pollLoop k left (u.refusedPolls busy.length) := by
  induction busy generalizing u with
  | nil => simp [State.refusedPolls]
  | cons a busy ih =>
    obtain ⟨hr, hbusy⟩ := List.forall_mem_cons.mp hbusy
    obtain ⟨hresp, hpoll⟩ := State.countedPoll_refused hc ha hr
    have ha' : (u.refusedPolls 1).answers = busy ++ rest := by simp [State.refusedPolls, ha]
    have hsum : (u.refusedPolls 1).refusedPolls busy.length = u.refusedPolls (busy.length + 1) := by
      simp [State.refusedPolls, refusedPoll, List.replicate_succ, Nat.add_assoc, Nat.add_comm 1]
    rw [List.length_cons, Nat.add_right_comm, pollLoop_nack hresp, hpoll, ih (u := u.refusedPolls 1) hc ha' hbusy, hsum]

theorem State.trigger_accepted {a : Answer} {as : List Answer} (ha : u.answers = a :: as) (h : Answer.accepts a)
    (hm : u.muxreg ≠ 0) (k : Kind) : u.trigResp k = .ack ∧ u.trigger k = u.triggered k := by
  have hacc : sensorAccepts u := ⟨hm, by rw [State.answer_of_cons ha]; exact h⟩
  have hresp := (State.trigResp_ack_iff hc k).mpr hacc
  exact ⟨hresp, State.trigger_of_trigResp hresp⟩

end

/-! ### The ends of an iteration, with the inter-channel delay (R200, R201) -/

section
variable {v : State} (hf : v.Free)
include hf

theorem run_failIteration (e : ErrCode × Phase) :
    run (v.cfg.channelDelay + 1) (v.raiseFail e.1 e.2) = .next ((v.failIteration e).inSt St.idle 0) :=
  run_cons (step_raiseFail hf e) (run_ticks (u := v.failIteration e) hf (by decide) _)

theorem run_report (hv : crcValid v.msb v.lsb v.chk = true) :
    run (2 + v.cfg.channelDelay) (v.inSt St.rhRead 0) = .next ((v.report (wordOf v.msb v.lsb)).inSt St.idle 0) :=
  run_trans (run_rhRead_valid hf hv) (run_ticks (u := v.report (wordOf v.msb v.lsb)) hf (by decide) _)

end

/-! ### The start of an iteration -/

/-- From `IDLE` to `T_TRIGGERED`, when select and trigger are acknowledged. -/
theorem run_to_tTriggered {s : State} {ch : Channel} {sel : Answer} {as : List Answer} (hf : s.Free) (hs : s.st = 0)
    (hw : s.wait = 0) (hch : channelAt s.cfg s.idx = ch) (ha : s.answers = sel :: as) (hsel : Answer.accepts sel)
    (hresp : (s.selected ch).trigResp .temperature = .ack) :
    run (s.cfg.settle + 1 + 1) s = .next (((s.selected ch).trigger .temperature).inSt St.tTriggered 0) := by
  have hmux : muxAccepts s := by rw [muxAccepts, State.answer_of_cons ha]; exact hsel
  exact run_trans (run_select_accepted hf hs hw hch hmux) (run_one (step_chSelected_ack (u := s.selected ch) hf hresp))

theorem channelAt_of_getElem? {c : Config} {idx n : Nat} (h : c.channels[idx]? = some n) :
    channelAt c idx = BitVec.ofNat 3 n := by
  rw [channelAt, h]

/-! ### A hung sensor -/

/-- A budget of refused polls is a timeout. -/
theorem pollLoop_timeout {u : State} (hc : u.cfg.muxAddr ≠ u.cfg.sensorAddr) {k : Kind} {busy rest : List Answer}
    (ha : u.answers = busy ++ rest) (hbusy : ∀ a ∈ busy, a.addrAck = false) :
    pollLoop k busy.length u = (.error (.timeout, pollPhase k), u.refusedPolls busy.length) :=
  pollLoop_refused hc ha hbusy 0

/-- The state after the select of `ch`, the temperature trigger, and a budget of refused polls. -/
def State.hung (s : State) (ch : Channel) : State :=
  State.refusedPolls { (s.selected ch).triggered .temperature with attempts := 0 } s.cfg.pollMaxT

/-- Settles O59: select, trigger, the budget of refused polls, the report and the delay. -/
theorem hungSensorTimesOut : Obligations.HungSensorTimesOut := by
  intro s n ch sel tr busy rest hwf hp hs hw hn hch hans hsel htr hlen hbusy
  have hf : s.Free := ⟨hwf, hp⟩
  obtain ⟨hresp, htrig⟩ := State.trigger_accepted (u := s.selected ch) (devices_ne hwf) (congrArg List.tail hans) htr
    (muxMask_ne_zero ch) .temperature
  have htriggered := run_to_tTriggered hf hs hw ((channelAt_of_getElem? hn).trans hch.symm) hans hsel hresp
  rw [htrig] at htriggered
  have hloop := pollLoop_timeout (u := { (s.selected ch).triggered .temperature with attempts := 0 }) (k := .temperature)
    (devices_ne hwf) (congrArg (List.tail ∘ List.tail) hans) hbusy
  rw [hlen] at hloop
  have hpoll := (run_polling (u := (s.selected ch).triggered .temperature) hf .temperature hloop).2
  have hfail := run_failIteration (v := s.hung ch) hf (.timeout, .pollT)
  have hatt : (s.hung ch).attempts = s.cfg.pollMaxT := Nat.zero_add _
  have hcount : 4 + s.cfg.settle + s.cfg.pollMaxT * (s.cfg.pollInterval + 1) + s.cfg.channelDelay =
      s.cfg.settle + 1 + 1 + ((s.hung ch).attempts * (s.cfg.pollInterval + 1) + 1) + (s.cfg.channelDelay + 1) := by
    rw [hatt]
    omega
  refine ⟨((s.hung ch).failIteration (.timeout, .pollT)).inSt St.idle 0, ?_, rfl, rfl, rfl, ?_, ?_, ?_⟩
  · rw [hcount]
    exact run_trans (run_trans htriggered hpoll) hfail
  · show (s.answers.tail.tail).drop s.cfg.pollMaxT = rest
    rw [hans, ← hlen]
    exact List.drop_left
  · exact List.append_assoc ..
  · simp [State.inSt, State.failIteration, State.hung, State.refusedPolls, refusedPoll, State.triggered, State.selected,
      afterWrite, selectRecord, triggerCmd]

/-! ### A well-behaved iteration -/

/-- The two bytes of a word are the word (30_encoding.md R77). -/
theorem wordOf_extractLsb' (w : Word) : wordOf (w.extractLsb' 8 8) (w.extractLsb' 0 8) = w := by
  refine BitVec.eq_of_toNat_eq ?_
  have hw := w.isLt
  rw [wordOf_toNat, BitVec.extractLsb'_toNat, BitVec.extractLsb'_toNat, Nat.shiftRight_eq_div_pow]
  omega

theorem crcValid_of_returns {a : Answer} {w : Word} (h : Answer.returns a w) :
    crcValid a.m a.l a.c = true ∧ wordOf a.m a.l = w := by
  obtain ⟨-, hm, hl, hc⟩ := h
  exact ⟨by simp [crcValid, hc], by rw [hm, hl, wordOf_extractLsb']⟩

/-- The answers `as` acknowledge a trigger, refuse `n` polls, and return word `w` with `read`; `rest` comes after. -/
def AnswersMeasurement (w : Word) (n : Nat) (read : Answer) (rest as : List Answer) : Prop :=
  Answer.returns read w ∧ ∃ tr busy, as = tr :: busy ++ read :: rest ∧ Answer.accepts tr ∧ busy.length = n ∧
    ∀ a ∈ busy, a.addrAck = false

/-- The assumption of R132: an acknowledged select, then two measurements. -/
theorem WellBehaved.measurements {c : Config} {wT wRh : Word} {kT kRh : Nat} {rest as : List Answer}
    (h : WellBehaved c wT wRh kT kRh rest as) :
    ∃ sel readT readRh asT asRh, as = sel :: asT ∧ Answer.accepts sel ∧
      AnswersMeasurement wT (kT - 1) readT asRh asT ∧ AnswersMeasurement wRh (kRh - 1) readRh rest asRh := by
  obtain ⟨sel, trT, trRh, readT, readRh, busyT, busyRh, hans, hsel, htrT, htrRh, hlenT, hlenRh, hbusyT, hbusyRh, hreadT,
    hreadRh⟩ := h.shape
  exact ⟨sel, readT, readRh, trT :: busyT ++ readT :: (trRh :: busyRh ++ readRh :: rest), _, hans.trans (by simp), hsel,
    ⟨hreadT, trT, busyT, rfl, htrT, hlenT, hbusyT⟩, ⟨hreadRh, trRh, busyRh, rfl, htrRh, hlenRh, hbusyRh⟩⟩

/-- The state after an acknowledged trigger of kind `k`, `n` refused polls, and the answer `a`. -/
def State.measured (u : State) (k : Kind) (n : Nat) (a : Answer) : State :=
  { u with
    attempts := n + 1
    msb := a.m
    lsb := a.l
    chk := a.c
    busHist := u.busHist ++ (⟨.write, u.cfg.sensorAddr, [triggerCmd u.cfg k], .ack, [], u.muxreg⟩ ::
      List.replicate n (refusedPoll u) ++ [⟨.read, u.cfg.sensorAddr, [], .ack, [a.m, a.l, a.c], u.muxreg⟩])
    answers := u.answers.drop (n + 2)
    nAnswers := u.nAnswers + (n + 2) }

/-- It is made by the trigger, the refused polls and the answered one. -/
theorem State.measured_eq (u : State) (k : Kind) (n : Nat) (a : Answer) :
    (State.refusedPolls { u.triggered k with attempts := 0 } n).answeredPoll a = u.measured k n a := by
  simp [State.measured, State.answeredPoll, State.refusedPolls, refusedPoll, State.triggered, afterRead, afterWrite,
    Nat.add_comm, Nat.add_left_comm]

section
variable {u : State} {k : Kind} {read : Answer} {rest : List Answer}

/-- Within the budget, refused polls and an answered one end the poll loop. -/
theorem pollLoop_answered {busy : List Answer} {m : Nat} (hc : u.cfg.muxAddr ≠ u.cfg.sensorAddr) (hm : u.muxreg ≠ 0)
    (ha : u.answers = busy ++ read :: rest) (hbusy : ∀ a ∈ busy, a.addrAck = false) (hread : read.addrAck = true)
    (hle : busy.length + 1 ≤ m) :
    pollLoop k m u = (.ok (), (u.refusedPolls busy.length).answeredPoll read) := by
  obtain ⟨left, rfl⟩ := Nat.exists_eq_add_of_le hle
  have ha' : (u.refusedPolls busy.length).answers = read :: rest := by simp [State.refusedPolls, ha]
  obtain ⟨hresp, hpoll⟩ := State.countedPoll_answered (u := u.refusedPolls busy.length) hc ha' hread hm
  rw [Nat.add_assoc, pollLoop_refused hc ha hbusy, Nat.add_comm 1, pollLoop_ack hresp, hpoll]

/-- What is on the bus is the list of R211. -/
theorem State.measured_busHist {ch : Channel} {w : Word} (n : Nat) (hm : u.muxreg = muxMask ch)
    (hw : Answer.returns read w) :
    (u.measured k n read).busHist = u.busHist ++ measureRecords u.cfg ch (triggerCmd u.cfg k) n w := by
  obtain ⟨-, hmsb, hlsb, hchk⟩ := hw
  simp [State.measured, refusedPoll, measureRecords, hm, hmsb, hlsb, hchk]

variable {w : Word} {n : Nat} (h : AnswersMeasurement w n read rest u.answers)
include h

theorem AnswersMeasurement.measured_answers (k : Kind) : (u.measured k n read).answers = rest := by
  obtain ⟨-, tr, busy, ha, -, rfl, -⟩ := h
  simp [State.measured, ha]

variable (hf : u.Free) (hm : u.muxreg ≠ 0) (k : Kind)
include hf hm

theorem AnswersMeasurement.trigger : u.trigResp k = .ack ∧ u.trigger k = u.triggered k := by
  obtain ⟨-, tr, busy, ha, htr, -, -⟩ := h
  exact State.trigger_accepted (devices_ne hf.1) ha htr hm k

/-- From the acknowledged trigger to the read state (R194, R195; R197, R198). -/
theorem AnswersMeasurement.run_measured (hle : n + 1 ≤ pollMax u.cfg k) :
    run ((n + 1) * (u.cfg.pollInterval + 1) + 1) ((u.trigger k).inSt (triggeredSt k) 0) =
      .next ((u.measured k n read).inSt (readSt k) 0) := by
  rw [(h.trigger hf hm k).2]
  obtain ⟨hread, tr, busy, ha, -, rfl, hbusy⟩ := h
  have hloop := pollLoop_answered (u := { u.triggered k with attempts := 0 }) (k := k) (devices_ne hf.1) hm
    (congrArg List.tail ha) hbusy hread.1 hle
  rw [State.measured_eq] at hloop
  exact (run_polling (u := u.triggered k) hf k hloop).2

end

/-- The state after the select of `ch` and a temperature measurement that stored word `w` (R196). -/
def State.temperatureStored (s : State) (ch : Channel) (n : Nat) (a : Answer) (w : Word) : State :=
  { (s.selected ch).measured .temperature n a with tWord := w }

section
variable {s : State} {w : Word} {n : Nat} {read : Answer} {rest : List Answer} (hf : s.Free)
include hf

/-- The first half of a well-behaved iteration, up to the acknowledged trigger of humidity. -/
theorem run_to_rhTriggered {ch : Channel} {sel : Answer} {as : List Answer} (hs : s.st = 0) (hw : s.wait = 0)
    (hch : channelAt s.cfg s.idx = ch) (ha : s.answers = sel :: as) (hsel : Answer.accepts sel)
    (h : AnswersMeasurement w n read rest as) (hle : n + 1 ≤ s.cfg.pollMaxT)
    (hresp : (s.temperatureStored ch n read w).trigResp .humidity = .ack) :
    run (s.cfg.settle + 1 + 1 + ((n + 1) * (s.cfg.pollInterval + 1) + 1) + 1) s =
      .next (((s.temperatureStored ch n read w).trigger .humidity).inSt St.rhTriggered 0) := by
  obtain ⟨hvalid, rfl⟩ := crcValid_of_returns h.1
  have has : (s.selected ch).answers = as := congrArg List.tail ha
  have h' : AnswersMeasurement (wordOf read.m read.l) n read rest (s.selected ch).answers := has ▸ h
  have htriggered := run_to_tTriggered hf hs hw hch ha hsel (h'.trigger hf (muxMask_ne_zero ch) .temperature).1
  have hmeasured := h'.run_measured hf (muxMask_ne_zero ch) .temperature hle
  have hcheck := step_tRead_ack (u := (s.selected ch).measured .temperature n read) hf hvalid hresp
  exact run_trans (run_trans htriggered hmeasured) (run_one hcheck)

/-- The second half: polls, check, report and delay. -/
theorem run_from_rhTriggered (hm : s.muxreg ≠ 0) (h : AnswersMeasurement w n read rest s.answers)
    (hle : n + 1 ≤ s.cfg.pollMaxRh) :
    run ((n + 1) * (s.cfg.pollInterval + 1) + 1 + (2 + s.cfg.channelDelay))
        ((s.trigger .humidity).inSt St.rhTriggered 0) =
      .next (((s.measured .humidity n read).report w).inSt St.idle 0) := by
  obtain ⟨hvalid, rfl⟩ := crcValid_of_returns h.1
  exact run_trans (h.run_measured hf hm .humidity hle)
    (run_report (v := s.measured .humidity n read) hf hvalid)

end

/-- Settles O57: its two halves. -/
theorem wellBehavedIterationYieldsAReading : Obligations.WellBehavedIterationYieldsAReading := by
  intro s n ch wT wRh kT kRh rest hwf hp hs hw hn hch hwell
  have hf : s.Free := ⟨hwf, hp⟩
  have hmask := muxMask_ne_zero ch
  obtain ⟨hkT, hkTmax, hkRh, hkRhMax⟩ := hwell.budgets
  obtain ⟨sel, readT, readRh, asT, asRh, hans, hsel, hT, hRh⟩ := hwell.measurements
  obtain ⟨nT, rfl⟩ := Nat.exists_eq_add_of_le' hkT
  obtain ⟨nRh, rfl⟩ := Nat.exists_eq_add_of_le' hkRh
  rw [Nat.add_sub_cancel] at hT hRh ⊢
  rw [Nat.add_sub_cancel]
  have hstored : (s.temperatureStored ch nT readT wT).answers = asRh :=
    AnswersMeasurement.measured_answers (u := s.selected ch) (by simpa [State.selected, hans] using hT) .temperature
  have hRh' : AnswersMeasurement wRh nRh readRh rest (s.temperatureStored ch nT readT wT).answers := hstored ▸ hRh
  have hfirst := run_to_rhTriggered hf hs hw ((channelAt_of_getElem? hn).trans hch.symm) hans hsel hT hkTmax
    (hRh'.trigger hf hmask .humidity).1
  have hsecond := run_from_rhTriggered (s := s.temperatureStored ch nT readT wT) hf hmask hRh' hkRhMax
  have hcount : 7 + (nT + 1) + (nRh + 1) +
      (s.cfg.settle + (nT + 1 + (nRh + 1)) * s.cfg.pollInterval + s.cfg.channelDelay) =
      s.cfg.settle + 1 + 1 + ((nT + 1) * (s.cfg.pollInterval + 1) + 1) + 1 +
        ((nRh + 1) * (s.cfg.pollInterval + 1) + 1 + (2 + s.cfg.channelDelay)) := by
    ring
  refine ⟨(((s.temperatureStored ch nT readT wT).measured .humidity nRh readRh).report wRh).inSt St.idle 0, ?_, rfl, rfl,
    rfl, hRh'.measured_answers .humidity, List.append_assoc .., ?_⟩
  · rw [hcount]
    exact run_trans hfirst hsecond
  · have hbusT : (s.temperatureStored ch nT readT wT).busHist = (s.selected ch).busHist ++
        measureRecords s.cfg ch s.cfg.cmdTNoHold nT wT :=
      State.measured_busHist (u := s.selected ch) (k := .temperature) nT rfl hT.1
    have hbusRh := State.measured_busHist (u := s.temperatureStored ch nT readT wT) (k := .humidity) nRh rfl hRh.1
    refine hbusRh.trans ?_
    rw [hbusT, State.selected, List.append_assoc, List.append_assoc]
    rfl

end Sys2Proof.Machine
end

section
/-! The CRC-8 validator (spec/42_crc8.md): the code is linear, a byte is eight shifts of one injective map, and a frame
is valid exactly when its residue is zero. What is detected (R166) is read off the residue of the error pattern. -/

namespace Sys2Proof.Machine

/-! ### One shift (R161) -/

/-- A shift is doubling in the polynomial ring: linear over exclusive-or. -/
theorem crcShift_xor (a b : Byte) : crcShift (a ^^^ b) = crcShift a ^^^ crcShift b := by
  unfold crcShift
  rw [BitVec.msb_xor, BitVec.shiftLeft_xor_distrib]
  cases a.msb <;> cases b.msb
  case true.true =>
    have h : a <<< 1 ^^^ 0x31 ^^^ (b <<< 1 ^^^ 0x31) = a <<< 1 ^^^ b <<< 1 ^^^ (0x31 ^^^ 0x31) := by ac_rfl
    simpa using h.symm
  all_goals simp <;> ac_rfl

/-- The polynomial has a constant term, so no shift loses information. -/
theorem crcShift_eq_zero : ∀ {c : Byte}, crcShift c = 0 → c = 0 := by decide +kernel

theorem crcShift_injective : Function.Injective crcShift := fun a b h =>
  BitVec.xor_eq_zero_iff.mp (crcShift_eq_zero (by rw [crcShift_xor, h, BitVec.xor_self]; rfl))

/-- The polynomial has an even number of terms, so a shift keeps the parity. -/
theorem weight_crcShift : ∀ c : Byte, weight 8 (crcShift c) % 2 = weight 8 c % 2 := by decide +kernel

/-! ### Several shifts -/

section
variable (n : Nat)

theorem crcShift_iterate_xor (a b : Byte) : crcShift^[n] (a ^^^ b) = crcShift^[n] a ^^^ crcShift^[n] b := by
  induction n with
  | zero => rfl
  | succ n ih => simp only [Function.iterate_succ_apply', ih, crcShift_xor]

theorem crcShift_iterate_zero : crcShift^[n] 0 = 0 := Function.iterate_fixed rfl n

theorem crcShift_iterate_eq_zero {c : Byte} : crcShift^[n] c = 0 ↔ c = 0 := by
  conv_lhs => rw [← crcShift_iterate_zero n]
  exact (crcShift_injective.iterate n).eq_iff

theorem weight_crcShift_iterate (c : Byte) : weight 8 (crcShift^[n] c) % 2 = weight 8 c % 2 := by
  induction n with
  | zero => rfl
  | succ n ih => rw [Function.iterate_succ_apply', weight_crcShift, ih]

end

/-! ### One byte and a list of bytes -/

theorem crcByte_eq (c b : Byte) : crcByte c b = crcShift^[8] (c ^^^ b) := rfl

theorem crcByte_zero_left (b : Byte) : crcByte 0 b = crcShift^[8] b := by
  rw [crcByte_eq, show (0 : Byte) ^^^ b = b from BitVec.zero_xor]

theorem crcByte_eq_zero_iff {c b : Byte} : crcByte c b = 0 ↔ c = b := by
  rw [crcByte_eq, crcShift_iterate_eq_zero]
  exact BitVec.xor_eq_zero_iff

theorem crcByte_xor (c d a b : Byte) : crcByte (c ^^^ d) (a ^^^ b) = crcByte c a ^^^ crcByte d b := by
  simp only [crcByte_eq, ← crcShift_iterate_xor]
  congr 1
  ac_rfl

theorem crc8_append_singleton (bs : List Byte) (b : Byte) : crc8 (bs ++ [b]) = crcByte (crc8 bs) b := by
  rw [crc8, List.foldl_append]
  rfl

theorem crc8_singleton (b : Byte) : crc8 [b] = crcShift^[8] b := crcByte_zero_left b

theorem crc8_zipWith_xor (as bs : List Byte) (h : as.length = bs.length) :
    crc8 (List.zipWith (· ^^^ ·) as bs) = crc8 as ^^^ crc8 bs := by
  suffices ∀ c d, (List.zipWith (· ^^^ ·) as bs).foldl crcByte (c ^^^ d) =
      as.foldl crcByte c ^^^ bs.foldl crcByte d from this 0 0
  induction as generalizing bs with
  | nil => cases bs with
    | nil => exact fun _ _ => rfl
    | cons b bs => cases h
  | cons a as ih => cases bs with
    | nil => cases h
    | cons b bs =>
      intro c d
      rw [List.zipWith_cons_cons, List.foldl_cons, crcByte_xor]
      exact ih bs (Nat.succ.inj h) _ _

/-- The listed table, entry by entry. -/
theorem crcTable_flatten : crcTable.flatten = (List.range 256).map fun n => crc8 [BitVec.ofNat 8 n] := by
  decide +kernel

/-! ### The residue of a frame -/

/-- The CRC of the three bytes of a frame, first byte on the bus first. -/
def frameResidue (e : BitVec 24) : Byte := crc8 [e.extractLsb' 16 8, e.extractLsb' 8 8, e.extractLsb' 0 8]

/-- Settles O34: the last byte enters an accumulator that is zero after it exactly when both agree. -/
theorem crcResidueForm : Obligations.CrcResidueForm := fun m l k => by
  rw [show [m, l, k] = [m, l] ++ [k] from rfl, crc8_append_singleton]
  exact crcByte_eq_zero_iff.symm

theorem frameResidue_eq (e : BitVec 24) : frameResidue e =
    crcByte (crcByte (crcByte 0 (e.extractLsb' 16 8)) (e.extractLsb' 8 8)) (e.extractLsb' 0 8) := rfl

theorem frameValid_iff (e : BitVec 24) : frameValid e = true ↔ frameResidue e = 0 :=
  beq_iff_eq.trans (crcResidueForm _ _ _)

theorem frameResidue_xor (f e : BitVec 24) : frameResidue (f ^^^ e) = frameResidue f ^^^ frameResidue e := by
  simp only [frameResidue, BitVec.extractLsb'_xor]
  exact crc8_zipWith_xor [_, _, _] [_, _, _] rfl

/-- Whether an error pattern is detected does not depend on the frame. -/
theorem frameValid_xor_iff {f : BitVec 24} (hf : frameValid f = true) (e : BitVec 24) :
    frameValid (f ^^^ e) = true ↔ frameValid e = true := by
  rw [frameValid_iff, frameValid_iff, frameResidue_xor, (frameValid_iff f).mp hf]
  exact iff_of_eq (congrArg (· = 0) (BitVec.zero_xor))

/-- Settles O35: both parts are the linearity over lists of equal length. -/
theorem crcIsLinear : Obligations.CrcIsLinear :=
  ⟨fun a₁ a₂ b₁ b₂ => crc8_zipWith_xor [a₁, a₂] [b₁, b₂] rfl, fun _ e hf => frameValid_xor_iff hf e⟩

/-- Settles O37: a byte enters by exclusive-or alone, so a step depends on `c ^^^ b` only. -/
theorem crcTableForm : Obligations.CrcTableForm := by
  refine ⟨fun i => ?_, fun bs b => ?_⟩
  · rw [crcTable_flatten, List.getElem?_map, List.getElem?_range i.isLt]
    simp
  · rw [crc8_append_singleton, crc8_singleton, crcByte_eq]

/-! ### The parity of the residue: errors of an odd number of bits -/

theorem weight_xor (n : Nat) (x y : BitVec n) : weight n (x ^^^ y) % 2 = (weight n x + weight n y) % 2 := by
  unfold weight
  induction List.range n with
  | nil => rfl
  | cons i is ih =>
    simp only [List.countP_cons, BitVec.getLsbD_xor]
    cases x.getLsbD i <;> cases y.getLsbD i <;> simp <;> omega

theorem weight_crcByte (c b : Byte) : weight 8 (crcByte c b) % 2 = (weight 8 c + weight 8 b) % 2 := by
  rw [crcByte_eq, weight_crcShift_iterate, weight_xor]

/-- The parity of the checksum is the parity of the bytes. -/
theorem weight_crc8 (bs : List Byte) : weight 8 (crc8 bs) % 2 = (bs.map (weight 8)).sum % 2 := by
  induction bs using List.reverseRecOn with
  | nil => rfl
  | append_singleton bs b ih =>
    rw [crc8_append_singleton, weight_crcByte, List.map_append, List.sum_append, Nat.add_mod, ih, ← Nat.add_mod]
    rfl

theorem weight_extractLsb' {w : Nat} (x : BitVec w) (s n : Nat) :
    weight n (x.extractLsb' s n) = (List.range n).countP fun i => x.getLsbD (s + i) :=
  List.countP_congr fun i hi => by simp [List.mem_range.mp hi]

theorem weight_extractLsb'_add {w : Nat} (x : BitVec w) (s m n : Nat) :
    weight (m + n) (x.extractLsb' s (m + n)) = weight m (x.extractLsb' s m) + weight n (x.extractLsb' (s + m) n) := by
  simp only [weight_extractLsb', List.range_add, List.countP_append, List.countP_map, Function.comp_def, Nat.add_assoc]

/-- The weight of a frame is the sum of the weights of its bytes. -/
theorem weight_frame (e : BitVec 24) : weight 24 e =
    weight 8 (e.extractLsb' 0 8) + (weight 8 (e.extractLsb' 8 8) + weight 8 (e.extractLsb' 16 8)) := by
  have hlow := weight_extractLsb'_add e 0 8 16
  have hhigh := weight_extractLsb'_add e 8 8 8
  rw [BitVec.extractLsb'_eq_self] at hlow
  rw [hlow, hhigh]

theorem weight_frameResidue (e : BitVec 24) : weight 8 (frameResidue e) % 2 = weight 24 e % 2 := by
  rw [frameResidue, weight_crc8, weight_frame]
  simp only [List.map_cons, List.map_nil, List.sum_cons, List.sum_nil]
  omega

/-! ### Shifting a frame: bursts and pairs of bits -/

/-- What a byte hands to the byte above it when a frame is shifted by one bit. -/
def carryOut (b : Byte) : Byte := if b.msb then 1 else 0

/-- The reduction of R161 is what the carry is worth eight shifts later. -/
theorem crcShift_eq_carryOut (b : Byte) : crcShift b = b <<< 1 ^^^ crcShift^[8] (carryOut b) := by
  unfold crcShift carryOut
  split
  · rfl
  · exact (BitVec.xor_zero).symm

theorem getLsbD_carryOut (b : Byte) (i : Nat) : (carryOut b).getLsbD i = (decide (i = 0) && b.getLsbD 7) := by
  unfold carryOut
  rw [show b.getLsbD 7 = b.msb from (BitVec.msb_eq_getLsbD_last b).symm]
  cases b.msb <;> simp [BitVec.getLsbD_one]

/-- In a shifted word a byte takes in the carry of the byte below it. -/
theorem extractLsb'_shiftLeft_one {w : Nat} (e : BitVec w) {s : Nat} (hs : s + 16 ≤ w) :
    (e <<< 1).extractLsb' (s + 8) 8 = e.extractLsb' (s + 8) 8 <<< 1 ^^^ carryOut (e.extractLsb' s 8) := by
  refine BitVec.eq_of_getLsbD_eq fun i hi => ?_
  have hw : s + 8 + i < w := by omega
  simp only [BitVec.getLsbD_extractLsb', BitVec.getLsbD_shiftLeft, BitVec.getLsbD_xor, getLsbD_carryOut, hi, hw]
  cases i with
  | zero => simp
  | succ i => simp [(Nat.lt_of_succ_lt hi : i < 8), ← Nat.add_assoc]

theorem extractLsb'_zero_shiftLeft_one {w : Nat} (e : BitVec w) (hw : 8 ≤ w) :
    (e <<< 1).extractLsb' 0 8 = e.extractLsb' 0 8 <<< 1 := by
  refine BitVec.eq_of_getLsbD_eq fun i hi => ?_
  have hiw : i < w := by omega
  have hi' : i - 1 < 8 := by omega
  simp only [BitVec.getLsbD_extractLsb', BitVec.getLsbD_shiftLeft, hi, hiw, hi', Nat.zero_add]
  simp

/-- A byte taken in after a shift of the frame: the accumulator lags by the carry it has already seen. -/
theorem crcByte_shifted (c b d : Byte) :
    crcByte (crcShift c ^^^ crcShift^[8] (carryOut b)) (b <<< 1 ^^^ d) =
      crcShift (crcByte c b) ^^^ crcShift^[8] d := by
  have h : crcShift c ^^^ crcShift^[8] (carryOut b) ^^^ (b <<< 1 ^^^ d) = crcShift (c ^^^ b) ^^^ d := by
    rw [crcShift_xor, crcShift_eq_carryOut b]
    ac_rfl
  rw [crcByte_eq, h, crcShift_iterate_xor, crcByte_eq, ← Function.iterate_succ_apply, Function.iterate_succ_apply']

/-- Shifting a frame by one bit shifts its residue, unless a set bit leaves the frame. -/
theorem frameResidue_shiftLeft_one {e : BitVec 24} (h : e.msb = false) :
    frameResidue (e <<< 1) = crcShift (frameResidue e) := by
  have hmsb : (e.extractLsb' 16 8).msb = false := by
    simpa [BitVec.msb_eq_getLsbD_last] using h
  have hfirst (d : Byte) : crcByte 0 (e.extractLsb' 16 8 <<< 1 ^^^ d) =
      crcShift (crcByte 0 (e.extractLsb' 16 8)) ^^^ crcShift^[8] d := by
    rw [← crcByte_shifted, carryOut, hmsb]
    rfl
  have hlast (c b : Byte) : crcByte (crcShift c ^^^ crcShift^[8] (carryOut b)) (b <<< 1) = crcShift (crcByte c b) := by
    have h := crcByte_shifted c b 0
    rw [crcShift_iterate_zero] at h
    simpa using h
  rw [frameResidue_eq, extractLsb'_shiftLeft_one e (s := 8) (by decide),
    extractLsb'_shiftLeft_one e (s := 0) (by decide), extractLsb'_zero_shiftLeft_one e (by decide), hfirst,
    crcByte_shifted, hlast]
  rfl

/-- A shift by `n` bits that no set bit leaves the frame by is `n` shifts of the residue. -/
theorem frameResidue_shiftLeft {e : BitVec 24} {n : Nat} (h : e.toNat * 2 ^ n < 2 ^ 24) :
    frameResidue (e <<< n) = crcShift^[n] (frameResidue e) := by
  induction n generalizing e with
  | zero => simp
  | succ n ih =>
    rw [Nat.pow_succ', ← Nat.mul_assoc, Nat.mul_comm e.toNat] at h
    have hlt : 2 * e.toNat < 2 ^ 24 := (Nat.le_mul_of_pos_right _ (Nat.two_pow_pos n)).trans_lt h
    have hdouble : (e <<< 1).toNat = 2 * e.toNat := by
      rw [BitVec.toNat_shiftLeft, Nat.shiftLeft_eq]
      omega
    rw [Nat.add_comm, BitVec.shiftLeft_add, ih (by rwa [hdouble]), Nat.add_comm, Function.iterate_succ_apply,
      frameResidue_shiftLeft_one (BitVec.msb_eq_false_iff_two_mul_lt.mpr hlt)]

theorem frameResidue_setWidth (b : Byte) : frameResidue (b.setWidth 24) = crcShift^[8] b := by
  have hhigh {s : Nat} (hs : 8 ≤ s) : (b.setWidth 24).extractLsb' s 8 = 0 := by
    refine BitVec.eq_of_getLsbD_eq fun i hi => ?_
    simp [BitVec.getLsbD_of_ge b (s + i) (by omega)]
  have hlow : (b.setWidth 24).extractLsb' 0 8 = b := by
    refine BitVec.eq_of_getLsbD_eq fun i hi => ?_
    have : i < 24 := by omega
    simp [*]
  rw [frameResidue_eq, hhigh (by decide), hhigh (by decide), hlow, show crcByte 0 0 = 0 from rfl]
  exact crcByte_zero_left b

theorem frameResidue_burst (b : Byte) {n : Nat} (hn : n ≤ 16) :
    frameResidue (b.setWidth 24 <<< n) = crcShift^[n + 8] b := by
  have hfits : (b.setWidth 24).toNat * 2 ^ n < 2 ^ 24 :=
    calc (b.setWidth 24).toNat * 2 ^ n
      _ = b.toNat * 2 ^ n := by rw [BitVec.toNat_setWidth_of_le (by decide)]
      _ < 2 ^ 8 * 2 ^ n := Nat.mul_lt_mul_of_pos_right b.isLt (Nat.two_pow_pos n)
      _ ≤ 2 ^ 8 * 2 ^ 16 := Nat.mul_le_mul_left _ (Nat.pow_le_pow_right Nat.two_pos hn)
  rw [frameResidue_shiftLeft hfits, frameResidue_setWidth, Function.iterate_add_apply]

theorem frameResidue_one : frameResidue 1 = 0x31 := by decide +kernel

theorem frameResidue_twoPow {i : Nat} (hi : i < 24) : frameResidue (BitVec.twoPow 24 i) = crcShift^[i] 0x31 := by
  rw [BitVec.twoPow_eq, frameResidue_shiftLeft]
  · rw [← frameResidue_one]; rfl
  · rw [BitVec.toNat_ofNat]
    simpa using Nat.pow_lt_pow_right (by decide : 1 < 2) hi

theorem eq_twoPow_xor_of_weight_eq_two {w : Nat} {e : BitVec w} (h : weight w e = 2) :
    ∃ i j, i < j ∧ j < w ∧ e = BitVec.twoPow w i ^^^ BitVec.twoPow w j := by
  rw [weight, List.countP_eq_length_filter] at h
  obtain ⟨i, j, hpositions⟩ := List.length_eq_two.mp h
  have hmem (k : Nat) : k < w ∧ e.getLsbD k = true ↔ k = i ∨ k = j := by
    simpa using (congrArg (k ∈ ·) hpositions).to_iff
  have hij : i < j := by
    have hsorted : List.Pairwise (· < ·) [i, j] := hpositions ▸ List.pairwise_lt_range.filter _
    simpa using hsorted
  refine ⟨i, j, hij, ((hmem j).mpr (.inr rfl)).1, BitVec.eq_of_getLsbD_eq fun k hk => ?_⟩
  have hk' := hmem k
  rw [and_iff_right hk] at hk'
  rw [Bool.eq_iff_iff, hk']
  simp [((hmem i).mpr (.inl rfl)).1, ((hmem j).mpr (.inr rfl)).1]
  omega

theorem weight_eq_zero {w : Nat} {e : BitVec w} (h : weight w e = 0) : e = 0 := by
  refine BitVec.eq_of_getLsbD_eq fun i hi => ?_
  simpa using List.countP_eq_zero.mp h i (List.mem_range.mpr hi)

/-- The multiples of the residue of the last bit do not come back to it within a frame. -/
theorem crcShift_iterate_ne : ∀ d < 24, 0 < d → crcShift^[d] 0x31 ≠ 0x31 := by decide +kernel

/-- The residues of two bits differ by some shifts, fewer than the order of the polynomial. -/
theorem frameResidue_ne_zero_of_two_bits {i j : Nat} (hij : i < j) (hj : j < 24) :
    frameResidue (BitVec.twoPow 24 i ^^^ BitVec.twoPow 24 j) ≠ 0 := by
  rw [frameResidue_xor, frameResidue_twoPow (hij.trans hj), frameResidue_twoPow hj]
  obtain ⟨d, rfl⟩ := Nat.exists_eq_add_of_lt hij
  rw [Nat.add_assoc, Function.iterate_add_apply]
  intro h
  exact crcShift_iterate_ne (d + 1) (by omega) (by omega)
    (crcShift_injective.iterate i (BitVec.xor_eq_zero_iff.mp h)).symm

theorem frameResidue_ne_zero_of_odd {e : BitVec 24} (h : weight 24 e % 2 = 1) : frameResidue e ≠ 0 := by
  rw [← weight_frameResidue] at h
  intro h0
  rw [h0] at h
  exact absurd h (by decide)

theorem frameResidue_burst_ne_zero {b : Byte} {n : Nat} (hn : n ≤ 16) (hb : b.setWidth 24 <<< n ≠ 0) :
    frameResidue (b.setWidth 24 <<< n) ≠ 0 := by
  rw [frameResidue_burst b hn, Ne, crcShift_iterate_eq_zero]
  rintro rfl
  exact hb (by simp)

theorem frameResidue_ne_zero_of_weight_le_two {e : BitVec 24} (he : e ≠ 0) (h : weight 24 e ≤ 2) :
    frameResidue e ≠ 0 := by
  obtain h0 | h1 | h2 : weight 24 e = 0 ∨ weight 24 e = 1 ∨ weight 24 e = 2 := by omega
  · exact absurd (weight_eq_zero h0) he
  · exact frameResidue_ne_zero_of_odd (by rw [h1])
  · obtain ⟨i, j, hij, hj, rfl⟩ := eq_twoPow_xor_of_weight_eq_two h2
    exact frameResidue_ne_zero_of_two_bits hij hj

theorem existsUnique_crcValid (m l : Byte) : ∃! k : Byte, crcValid m l k = true :=
  ⟨crc8 [m, l], beq_self_eq_true _, fun _ hk => (eq_of_beq hk).symm⟩

/-- Settles O36: an error is detected when its own residue is not zero, by its parity, by the order of the polynomial,
or because a burst is a shifted byte. -/
theorem crcDetectsErrors : Obligations.CrcDetectsErrors := by
  refine ⟨by decide +kernel, by decide +kernel, by decide +kernel, existsUnique_crcValid, ?_⟩
  intro f e hf he hclass
  rw [Bool.eq_false_iff, Ne, frameValid_xor_iff hf, frameValid_iff]
  obtain hfew | hodd | ⟨b, n, hn, rfl⟩ := hclass
  · exact frameResidue_ne_zero_of_weight_le_two he hfew
  · exact frameResidue_ne_zero_of_odd hodd
  · exact frameResidue_burst_ne_zero hn he

/-! ### `CRC_CHECK` on its own (R163) -/

section
variable (s : State) {m l k : Byte}

theorem exec_crcCheck_valid (h : crc8 [m, l] = k) : exec (.crcCheck m l k) s = .next s :=
  congrArg _ (if_pos (beq_iff_eq.mpr h))

theorem exec_crcCheck_invalid (h : crc8 [m, l] ≠ k) :
    exec (.crcCheck m l k) s = .next (s.raiseFail .checksumMismatch (readPhase (kindOrFree s.st))) :=
  congrArg _ (if_neg (mt beq_iff_eq.mp h))

end

theorem kindOf_temperature {st : BitVec 4} (h2 : 2 ≤ st.toNat) (h4 : st.toNat ≤ 4) :
    kindOf st = some .temperature := by
  obtain h | h | h : st.toNat = 2 ∨ st.toNat = 3 ∨ st.toNat = 4 := by omega
  all_goals simp only [kindOf, h]

theorem kindOf_humidity {st : BitVec 4} (h5 : 5 ≤ st.toNat) (h7 : st.toNat ≤ 7) :
    kindOf st = some .humidity := by
  obtain h | h | h : st.toNat = 5 ∨ st.toNat = 6 ∨ st.toNat = 7 := by omega
  all_goals simp only [kindOf, h]

theorem kindOrFree_of_kindOf {st : BitVec 4} {k : Kind} (h : kindOf st = some k) : kindOrFree st = k := by
  rw [kindOrFree, h]

/-- Settles O27: the failure is taken in the read phase of the kind, whichever kind that is outside the measuring
states. -/
theorem crcCheckResults : Obligations.CrcCheckResults := by
  intro s m l k
  refine ⟨exec_crcCheck_valid s, fun h => ?_⟩
  rw [exec_crcCheck_invalid s h]
  refine ⟨fun h2 h4 => ?_, fun h5 h7 => ?_, ?_⟩
  · rw [kindOrFree_of_kindOf (kindOf_temperature h2 h4)]
    rfl
  · rw [kindOrFree_of_kindOf (kindOf_humidity h5 h7)]
    rfl
  · cases kindOrFree s.st with
    | temperature => exact .inl rfl
    | humidity => exact .inr rfl

end Sys2Proof.Machine
end

section
/-! The consumer's side (spec/43_conversion.md R180 to R186; spec/44_acquisition.md R215): both conversions are affine
in the code, so a bound on a converted value is a bound on the code; the Sink takes one more event by its case. -/

namespace Sys2Proof.Machine

/-! ### Masked codes (R182) -/

theorem toNat_and_three (code : Word) : (code &&& 3).toNat = code.toNat % 4 :=
  Nat.and_two_pow_sub_one_eq_mod code.toNat 2

theorem codeOf_toNat_le (w : Word) : (codeOf w).toNat ≤ (0xFFFC : Word).toNat := by
  have hw := w.isLt
  calc (codeOf w).toNat = w.toNat / 4 * 4 := codeOf_toNat w
    _ ≤ 65532 := by omega

/-! ### Humidity before clamping (R181) -/

section
variable (code : Word)

theorem rhRaw_eq_div : rhRaw code = ((125 * code.toNat - 393216 : Int) : Rat) / 65536 := by
  push_cast [rhRaw]
  ring

theorem rhRaw_lt_intCast_iff (n : Int) : rhRaw code < n ↔ 125 * (code.toNat : Int) - 393216 < n * 65536 := by
  rw [rhRaw_eq_div, div_lt_iff₀ (by norm_num)]
  norm_cast

theorem intCast_lt_rhRaw_iff (n : Int) : (n : Rat) < rhRaw code ↔ n * 65536 < 125 * (code.toNat : Int) - 393216 := by
  rw [rhRaw_eq_div, lt_div_iff₀ (by norm_num)]
  norm_cast

/-- The value 0 is no code's: 125 does not divide 6 * 65536. -/
theorem rhRaw_neg_iff : rhRaw code < 0 ↔ code.toNat ≤ 3145 := by
  rw [← Int.cast_zero, rhRaw_lt_intCast_iff]
  omega

theorem rhRaw_pos_iff : 0 < rhRaw code ↔ 3146 ≤ code.toNat := by
  rw [← Int.cast_zero, intCast_lt_rhRaw_iff]
  omega

theorem rhRaw_lt_hundred_iff : rhRaw code < 100 ↔ code.toNat ≤ 55574 := by
  rw [← Int.cast_ofNat, rhRaw_lt_intCast_iff]
  omega

theorem hundred_lt_rhRaw_iff : 100 < rhRaw code ↔ 55575 ≤ code.toNat := by
  rw [← Int.cast_ofNat, intCast_lt_rhRaw_iff]
  omega

/-! ### The clamp (R181, R185) -/

theorem humidityPct_nonneg : 0 ≤ humidityPct code :=
  le_min (le_max_right _ _) (by norm_num)

theorem humidityPct_le_hundred : humidityPct code ≤ 100 := min_le_right _ _

theorem humidityPct_eq_zero_iff : humidityPct code = 0 ↔ code.toNat ≤ 3145 := by
  have hclamp : humidityPct code ≤ 0 ↔ rhRaw code ≤ 0 := by simp [humidityPct]
  rw [← (humidityPct_nonneg code).ge_iff_eq', hclamp, ← not_lt, rhRaw_pos_iff]
  omega

theorem humidityPct_eq_hundred_iff : humidityPct code = 100 ↔ 55575 ≤ code.toNat := by
  have hclamp : 100 ≤ humidityPct code ↔ 100 ≤ rhRaw code := by simp [humidityPct]
  rw [← (humidityPct_le_hundred code).ge_iff_eq, hclamp, ← not_lt, rhRaw_lt_hundred_iff]
  omega

end

/-! ### Temperature (R180, R186) -/

section
variable (a b : Word)

theorem tempC_sub : tempC b - tempC a = 17572 / 100 * ((b.toNat : Rat) - a.toNat) / 65536 := by
  unfold tempC
  ring

theorem tempC_lt_iff : tempC a < tempC b ↔ a.toNat < b.toNat := by
  rw [← sub_pos, tempC_sub, ← Nat.cast_lt (α := Rat), ← sub_pos (b := (a.toNat : Rat))]
  constructor <;> intro h <;> linarith

theorem tempC_le_iff : tempC a ≤ tempC b ↔ a.toNat ≤ b.toNat := by
  rw [← not_lt, tempC_lt_iff, not_lt]

end

theorem tempC_zero : tempC 0 = -4685 / 100 := by decide +kernel

theorem tempC_largest_code : tempC 0xFFFC = 52780759 / 409600 := by decide +kernel

theorem tempC_add_four_sub {c : Word} (h : c.toNat + 4 < 65536) :
    tempC (c + 4) - tempC c = 17572 / 100 * 4 / 65536 := by
  have hadd : (c + 4).toNat = c.toNat + 4 := Nat.mod_eq_of_lt h
  rw [tempC_sub, hadd, Nat.cast_add, add_sub_cancel_left, Nat.cast_ofNat]

/-- Settles O38: the affine value changes side between the codes 3145 and 3146 and between 55574 and 55575, and a masked
code is a multiple of 4. -/
theorem humidityClampThresholds : Obligations.HumidityClampThresholds := by
  refine ⟨fun code => ⟨humidityPct_nonneg code, humidityPct_le_hundred code⟩, fun code hmask => ?_,
    by decide +kernel, by decide +kernel, fun a b => (tempC_lt_iff a b).mpr⟩
  have hmod : code.toNat % 4 = 0 := by rw [← toNat_and_three, hmask]; rfl
  rw [rhRaw_neg_iff, humidityPct_eq_zero_iff, hundred_lt_rhRaw_iff, humidityPct_eq_hundred_iff]
  omega

/-- Settles O39: the conversion is monotone, so the range is the image of the least and the largest masked code. -/
theorem temperatureRangeAndResolution : Obligations.TemperatureRangeAndResolution := by
  refine ⟨fun w => ⟨?_, ?_⟩, tempC_zero, tempC_largest_code, fun _ => tempC_add_four_sub⟩
  · rw [← tempC_zero, tempC_le_iff]
    exact Nat.zero_le _
  · rw [← tempC_largest_code, tempC_le_iff]
    exact codeOf_toNat_le w

/-! ### Readings and the Sink (R184, R215) -/

theorem physicalReading_eq_some_iff (e : Event) (p : PhysicalReading) : physicalReading e = some p ↔
    ∃ ch t rh, e = .reading ch t rh ∧ p = ⟨tempC (codeOf t), humidityPct (codeOf rh), ch⟩ := by
  constructor
  · intro h
    cases e with
    | reading ch t rh => exact ⟨ch, t, rh, rfl, (Option.some.inj h).symm⟩
    | cycleStart ch => cases h
    | fail ch c ph => cases h
  · rintro ⟨ch, t, rh, rfl, rfl⟩
    rfl

theorem sinkOf_append_singleton (es : List Event) (e : Event) : sinkOf (es ++ [e]) = (sinkOf es).accept e :=
  List.foldl_append

section
variable (k : Sink) (ch : Channel)

@[simp] theorem Sink.accept_cycleStart : k.accept (.cycleStart ch) = { k with shown := none } := rfl

@[simp] theorem Sink.accept_fail (c : BitVec 2) (p : BitVec 3) : k.accept (.fail ch c p) = k := rfl

@[simp] theorem Sink.shown_accept_reading (t rh : Word) :
    (k.accept (.reading ch t rh)).shown = physicalReading (.reading ch t rh) := rfl

/-- The newest reading of the channel is the first of the list. -/
theorem Sink.find?_known_accept_reading (t rh : Word) :
    (k.accept (.reading ch t rh)).known.find? (·.channel == ch) = physicalReading (.reading ch t rh) :=
  List.find?_cons_of_pos (beq_self_eq_true ch)

end

/-- Settles O40: one more event is one `Sink.accept`, a case per event. -/
theorem sinkShowsReadingsOnly : Obligations.SinkShowsReadingsOnly := by
  refine ⟨physicalReading_eq_some_iff, fun es e => ?_⟩
  rw [sinkOf_append_singleton]
  refine ⟨?_, ?_, ?_⟩
  · rintro ch rfl
    rw [Sink.accept_cycleStart]
    exact ⟨rfl, rfl⟩
  · rintro ch t rh rfl
    exact ⟨Sink.shown_accept_reading _ ch t rh, Sink.find?_known_accept_reading _ ch t rh⟩
  · rintro ch c p rfl
    exact Sink.accept_fail _ ch c p

end Sys2Proof.Machine
end

section
/-! What each step of the state machine leaves (spec/44_acquisition.md R191 to R201): the whole next state, by the
response of the step's transaction or by its check. -/

namespace Sys2Proof.Machine

/-! ### `TICK` (R191) -/

/-- Settles O13: `wait` becomes its predecessor, which at 0 is `wait` itself. -/
theorem tickCountsDown : Obligations.TickCountsDown := by
  intro s st
  have htick {w : Nat} (h : s.wait - 1 = w) : exec (.tick st) s = .next { s with wait := w } := by
    rw [← h]
    rfl
  exact ⟨fun n hn => htick (by omega), fun h0 => htick (w := s.wait) (by omega)⟩

/-! ### `S_IDLE` (R192) -/

section
variable {s : State} {ch : Channel} (hch : channelAt s.cfg s.idx = ch)
include hch

theorem exec_sIdle_accepted (h : muxAccepts s) :
    exec .sIdle s = .next ((s.selected ch).inSt St.chSelected s.cfg.settle) := by
  subst hch
  have hstep := State.selectStep_ack ((State.muxResp_ack_iff s.startIteration _).mpr h)
  rw [State.muxWrite_of_accepts (s := s.startIteration) h] at hstep
  exact congrArg _ hstep

/-- The state after a refused select of `ch`, before the failure is taken (40_mux_writer.md R103). -/
def State.selectRefused (s : State) (ch : Channel) : State :=
  { afterWrite s s.cfg.muxAddr (muxMask ch) .nack with
    ch := ch, sinkHist := s.sinkHist ++ [.cycleStart ch], muxreg := s.answer.mux }

theorem exec_sIdle_refused (h : ¬ muxAccepts s) :
    exec .sIdle s = .next ((s.selectRefused ch).raiseFail .noAck .select) := by
  subst hch
  have hstep := State.selectStep_nack (State.muxResp_nack_of_not_accepts (s := s.startIteration) h _)
  rw [State.muxWrite_of_not_accepts (s := s.startIteration) h] at hstep
  exact congrArg _ hstep

end

/-- Settles O14: the select by its response; a refused one is reported by the next step. -/
theorem idleStepSelectsTheChannel : Obligations.IdleStepSelectsTheChannel := by
  intro s n ch hn hch
  have hat : channelAt s.cfg s.idx = ch := (channelAt_of_getElem? hn).trans hch.symm
  refine ⟨exec_sIdle_accepted hat, exec_sIdle_refused hat, fun h hwf hp t ht => ?_⟩
  cases (exec_sIdle_refused hat h).symm.trans ht
  have hf : (s.selectRefused ch).Free := ⟨hwf, hp⟩
  exact ⟨_, step_raiseFail hf (.noAck, .select), rfl, rfl, rfl⟩

/-! ### `S_CH_SELECTED` (R193) -/

theorem State.trigResp_nack_of_not_accepts {s : State} (hc : s.cfg.muxAddr ≠ s.cfg.sensorAddr)
    (h : ¬ sensorAccepts s) (k : Kind) : s.trigResp k = .nack :=
  resp_ne_ack.mp ((State.trigResp_ack_iff hc k).not.mpr h)

/-- Settles O15: the trigger by its response. -/
theorem chSelectedStepTriggersTemperature : Obligations.ChSelectedStepTriggersTemperature := by
  intro s hc
  have hexec : exec .sChSelected s = execSChSelected s := rfl
  refine ⟨fun h => ?_, fun h => ?_⟩
  · have hr := (State.trigResp_ack_iff hc .temperature).mpr h
    rw [hexec, execSChSelected, hr, State.trigger_of_trigResp hr]
    rfl
  · have hr := State.trigResp_nack_of_not_accepts hc h .temperature
    rw [hexec, execSChSelected, hr, State.trigger_of_trigResp hr]
    rfl

/-! ### `S_T_TRIGGERED` and `S_RH_TRIGGERED` (R194, R197) -/

/-- Settles O16. -/
theorem triggeredStepsStartPolling : Obligations.TriggeredStepsStartPolling :=
  fun _ => ⟨rfl, rfl⟩

/-! ### `S_T_POLLING` and `S_RH_POLLING` (R195, R198) -/

/-- A polling step counts its attempt, however it ends. -/
theorem State.pollingStep_attempts (s : State) (k : Kind) (y : BitVec 4) :
    (s.pollingStep k y).attempts = s.attempts + 1 := by
  unfold State.pollingStep
  split
  · rfl
  · split <;> rfl

theorem State.pollingStep_attempts_le {s : State} {k : Kind} (h : s.attempts < pollMax s.cfg k) (y : BitVec 4) :
    (s.pollingStep k y).attempts ≤ pollMax s.cfg k := by
  rw [State.pollingStep_attempts]
  exact h

section
variable {s : State} (hc : s.cfg.muxAddr ≠ s.cfg.sensorAddr) {k : Kind} {y : BitVec 4}
include hc

theorem State.pollResp_nack_of_not_answers (h : ¬ sensorAnswers s) : s.pollResp = .nack :=
  resp_ne_ack.mp ((State.pollResp_ack_iff hc).not.mpr h)

theorem State.pollingStep_answered (h : sensorAnswers s) :
    s.pollingStep k y = { s.answeredPoll s.answer with st := y } := by
  have hr := (State.pollResp_ack_iff hc).mpr h
  rw [State.pollingStep_ack hr, State.pollOnce_ack hr]
  rfl

theorem State.pollingStep_lastRefused (h : ¬ sensorAnswers s) (hm : s.attempts + 1 = pollMax s.cfg k) :
    s.pollingStep k y =
      { afterRead s .nack [] with attempts := s.attempts + 1 }.raiseFail .timeout (pollPhase k) := by
  have hr := State.pollResp_nack_of_not_answers hc h
  rw [State.pollingStep_timeout hr hm, State.pollOnce_nack hr]

theorem State.pollingStep_refused (h : ¬ sensorAnswers s) (hm : s.attempts + 1 ≠ pollMax s.cfg k) :
    s.pollingStep k y =
      { afterRead s .nack [] with attempts := s.attempts + 1, wait := s.cfg.pollInterval } := by
  have hr := State.pollResp_nack_of_not_answers hc h
  rw [State.pollingStep_again hr hm, State.pollOnce_nack hr]

end

/-- Settles O17: the polling step of temperature. -/
theorem tPollingStepResults : Obligations.TPollingStepResults := by
  intro s hc
  exact ⟨fun h => congrArg _ (State.pollingStep_answered hc h),
    fun h hm => congrArg _ (State.pollingStep_lastRefused hc (k := .temperature) h hm),
    fun h hm => congrArg _ (State.pollingStep_refused hc (k := .temperature) h hm),
    fun h _ ht => Host.Outcome.next.inj ht ▸ State.pollingStep_attempts_le (k := .temperature) h _⟩

/-- Settles O18: the polling step of humidity. -/
theorem rhPollingStepResults : Obligations.RhPollingStepResults := by
  intro s hc
  exact ⟨fun h => congrArg _ (State.pollingStep_answered hc h),
    fun h hm => congrArg _ (State.pollingStep_lastRefused hc (k := .humidity) h hm),
    fun h hm => congrArg _ (State.pollingStep_refused hc (k := .humidity) h hm),
    fun h _ ht => Host.Outcome.next.inj ht ▸ State.pollingStep_attempts_le (k := .humidity) h _⟩

/-! ### `S_T_READ` and `S_RH_READ` (R196, R199) -/

section
variable {s : State}

theorem exec_sTRead_invalid (h : crc8 [s.msb, s.lsb] ≠ s.chk) :
    exec .sTRead s = .next (s.raiseFail .checksumMismatch .readT) :=
  congrArg _ (if_neg (mt beq_iff_eq.mp h))

theorem exec_sTRead_valid (h : crc8 [s.msb, s.lsb] = s.chk) : exec .sTRead s = .next s.storeAndTriggerRh :=
  congrArg _ (if_pos (beq_iff_eq.mpr h))

theorem exec_sRhRead_invalid (h : crc8 [s.msb, s.lsb] ≠ s.chk) :
    exec .sRhRead s = .next (s.raiseFail .checksumMismatch .readRh) :=
  congrArg _ (if_neg (mt beq_iff_eq.mp h))

theorem exec_sRhRead_valid (h : crc8 [s.msb, s.lsb] = s.chk) :
    exec .sRhRead s = .next { s with rhWord := wordOf s.msb s.lsb, st := St.done } :=
  congrArg _ (if_pos (beq_iff_eq.mpr h))

end

/-- Settles O19: the checksum, then for a valid word the trigger by its response. -/
theorem tReadStepResults : Obligations.TReadStepResults := by
  intro s hc
  refine ⟨exec_sTRead_invalid, fun hv h => ?_, fun hv h => ?_⟩
  · have hr := (State.trigResp_ack_iff hc .humidity).mpr h
    rw [exec_sTRead_valid hv, State.storeAndTriggerRh_ack hr, State.trigger_of_trigResp hr]
    rfl
  · have hr := State.trigResp_nack_of_not_accepts hc h .humidity
    rw [exec_sTRead_valid hv, State.storeAndTriggerRh_nack hr, State.trigger_of_trigResp hr]
    rfl

/-- Settles O20: the two answers of the check. -/
theorem rhReadStepResults : Obligations.RhReadStepResults :=
  fun _ => ⟨exec_sRhRead_invalid, exec_sRhRead_valid⟩

/-! ### `S_DONE` and `S_FAILED` (R200, R201) -/

/-- Settles O21. -/
theorem doneStepEmitsReading : Obligations.DoneStepEmitsReading :=
  fun _ => rfl

/-- Settles O22. -/
theorem failedStepEmitsFail : Obligations.FailedStepEmitsFail :=
  fun _ => rfl

end Sys2Proof.Machine
end

section
/-! The rules of the whole state machine (spec/44_acquisition.md R202, R206 to R208, R210): every legal state has a next
one, every change of `st` and `wait` is a row of the table, and sensor traffic is on the selected channel. -/

namespace Sys2Proof.Machine

/-! ### The block never halts (R206) -/

/-- Only an illegal `st` stops a free block (10_state.md R21). -/
theorem step_next_of_legal {s : State} (hf : s.Free) (hs : s.st.toNat ≤ 9) : ∃ t, step s = .next t := by
  obtain ⟨hill, -⟩ | ⟨-, -, hx⟩ | ⟨-, hx⟩ := step_cases hf.1 hf.2
  · omega
  · exact ⟨_, hx⟩
  · obtain ⟨-, hx⟩ | ⟨-, hx⟩ | ⟨-, hx⟩ | ⟨-, hx⟩ | ⟨-, hx⟩ | ⟨-, hx⟩ | ⟨-, hx⟩ | ⟨-, hx⟩ | ⟨-, hx⟩ | ⟨-, hx⟩ := hx <;>
      exact ⟨_, hx⟩

/-- Settles O45: the invariant has `st` legal. -/
theorem blockNeverHalts : Obligations.BlockNeverHalts :=
  fun _ h => step_next_of_legal h.free h.legalSt

/-! ### The transition table (R202) -/

/-- The change of `st` and `wait` from `s` to `t` is a row of the table. -/
def IsTransition (s t : State) : Prop := (s.st, t.st, t.wait) ∈ transitionTable s.cfg

section
variable {s t : State}

/-- A failure is a row from every state but those that only load `wait` or end the iteration. -/
theorem IsTransition.failed (hs : s.st ∈ [St.idle, St.chSelected, St.tPolling, St.tRead, St.rhPolling, St.rhRead])
    (hst : t.st = St.failed) (hw : t.wait = 0) : IsTransition s t := by
  rw [IsTransition, hst, hw]
  simp only [List.mem_cons, List.not_mem_nil, or_false] at hs
  obtain hs | hs | hs | hs | hs | hs := hs <;> simp [hs, transitionTable]

theorem State.selectStep_isTransition (hs : s.st = St.idle) : IsTransition s s.selectStep := by
  unfold State.selectStep
  split
  · simp [IsTransition, hs, transitionTable]
  · exact .failed (by simp [hs]) rfl rfl

theorem State.storeAndTriggerRh_isTransition (hs : s.st = St.tRead) (hw : s.wait = 0) :
    IsTransition s s.storeAndTriggerRh := by
  unfold State.storeAndTriggerRh
  split
  · simp [IsTransition, hs, hw, transitionTable]
  · exact .failed (by simp [hs]) rfl rfl

theorem State.startPolling_isTransition {k : Kind} (hs : s.st = triggeredSt k) :
    IsTransition s (s.startPolling (pollingSt k)) := by
  cases k <;> simp [IsTransition, hs, triggeredSt, pollingSt, transitionTable]

theorem State.pollingStep_isTransition {k : Kind} (hs : s.st = pollingSt k) (hw : s.wait = 0) :
    IsTransition s (s.pollingStep k (readSt k)) := by
  unfold State.pollingStep
  split
  · cases k <;> simp [IsTransition, hs, hw, pollingSt, readSt, transitionTable]
  · split
    · exact .failed (by rw [hs]; cases k <;> decide) rfl rfl
    · cases k <;> simp [IsTransition, hs, pollingSt, transitionTable]

/-- The step of a state that is not waiting, by the step that runs. -/
theorem step_isTransition (hf : s.Free) (hw : s.wait = 0) (ht : step s = .next t) : IsTransition s t := by
  obtain ⟨-, hx⟩ | ⟨-, hpos, -⟩ | ⟨-, hx⟩ := step_cases hf.1 hf.2
  · cases hx.symm.trans ht
  · omega
  obtain ⟨hs, hx⟩ | ⟨hs, hx⟩ | ⟨hs, hx⟩ | ⟨hs, hx⟩ | ⟨hs, hx⟩ | ⟨hs, hx⟩ | ⟨hs, hx⟩ | ⟨hs, hx⟩ | ⟨hs, hx⟩ | ⟨hs, hx⟩ :=
    hx <;> cases hx.symm.trans ht
  · exact State.selectStep_isTransition (s := s.startIteration) hs
  · split
    · simp [IsTransition, hs, hw, transitionTable]
    · exact .failed (by simp [hs]) rfl rfl
  · exact State.startPolling_isTransition (k := .temperature) hs
  · exact State.pollingStep_isTransition (k := .temperature) hs hw
  · split
    · exact State.storeAndTriggerRh_isTransition hs hw
    · exact .failed (by simp [hs]) rfl rfl
  · exact State.startPolling_isTransition (k := .humidity) hs
  · exact State.pollingStep_isTransition (k := .humidity) hs hw
  · split
    · simp [IsTransition, hs, hw, transitionTable]
    · exact .failed (by simp [hs]) rfl rfl
  · simp [IsTransition, hs, transitionTable]
  · simp [IsTransition, hs, transitionTable]

end

/-- Settles O46: while waiting a step is a tick, otherwise it is the step of `st`. -/
theorem transitionsAreTheTable : Obligations.TransitionsAreTheTable := by
  intro s t hwf hp ht
  refine ⟨fun hpos => ?_, fun hw => step_isTransition ⟨hwf, hp⟩ hw ht⟩
  obtain ⟨-, hx⟩ | ⟨-, -, hx⟩ | ⟨hw, -⟩ := step_cases hwf hp
  · cases hx.symm.trans ht
  · cases hx.symm.trans ht
    exact ⟨rfl, rfl⟩
  · omega

/-! ### Channel exclusivity (R210) -/

/-- Only the select code of `IDLE` selects `S_IDLE`. -/
theorem decodeSelect_eq_sIdle : ∀ (st : BitVec 4) (z : Bool), decodeSelect (st ++ BitVec.ofBool z) = .sIdle →
    st = St.idle := by
  decide

/-- Outside `IDLE` a step keeps the channel (10_state.md R20). -/
theorem step_ch {s t : State} (hf : s.Free) (hs : s.st ≠ St.idle) (ht : step s = .next t) : t.ch = s.ch := by
  have hx := (step_free hf.1 hf.2).symm.trans ht
  obtain ⟨-, -, -, -, -, -, hch, -⟩ := registersAreWrittenByTheirSteps _ s t hx
  by_contra hne
  exact hs (decodeSelect_eq_sIdle s.st _ (hch hne))

/-- Settles O50: a sensor record is made only in the iteration, where the invariant has the channel and its mask. -/
theorem sensorTrafficIsOnTheSelectedChannel : Obligations.SensorTrafficIsOnTheSelectedChannel := by
  intro s t r hinv ht hr ha
  obtain hkept | ⟨r', hmade, happ⟩ := step_appendsOwnRecord hinv.free ht
  · simp [hkept] at hr
  · obtain rfl : r = r' := by simpa [happ] using hr
    obtain ⟨hs, hmux⟩ := hmade.sensor hinv.free.1 ha
    obtain ⟨hch, hmask⟩ := hinv.selected hs
    exact ⟨hmux.trans hmask, hch, step_ch hinv.free (inIteration_ne_idle hs) ht⟩

/-! ### Delays (R207, R208) -/

/-- Settles O54: the state is itself with its own `st` and `wait`. -/
theorem delayIsARunOfTicks : Obligations.DelayIsARunOfTicks :=
  fun s hwf hp hs => run_ticks (u := s) ⟨hwf, hp⟩ hs s.wait

end Sys2Proof.Machine
end

section
/-! Every iteration reports once and ends (spec/44_acquisition.md R203, R205, R212). The machine ends where the contract
`acquire` does, so what remains is a fact about the contract: its measurements emit nothing and keep the channel, and
each of its ends emits one event. -/

namespace Sys2Proof.Machine

/-! ### What a measurement leaves alone -/

/-- `t` is in the iteration of `s`: the same channel, and nothing emitted since. -/
structure SameIteration (s t : State) : Prop where
  cfg : t.cfg = s.cfg
  presented : t.presented = s.presented
  idx : t.idx = s.idx
  ch : t.ch = s.ch
  sinkHist : t.sinkHist = s.sinkHist

section
variable {s t u : State} {k : Kind}

theorem SameIteration.trans (h : SameIteration s t) (h' : SameIteration t u) : SameIteration s u :=
  ⟨h'.cfg.trans h.cfg, h'.presented.trans h.presented, h'.idx.trans h.idx, h'.ch.trans h.ch,
    h'.sinkHist.trans h.sinkHist⟩

theorem SameIteration.free (h : SameIteration s t) (hf : s.Free) : t.Free :=
  ⟨(congrArg Config.wf h.cfg).trans hf.1, h.presented.trans hf.2⟩

theorem State.countedPoll_sameIteration (u : State) : SameIteration u u.countedPoll :=
  ⟨u.pollOnce_cfg, u.pollOnce_presented, u.pollOnce_idx, u.pollOnce_ch, u.pollOnce_sinkHist⟩

theorem pollLoop_sameIteration (k : Kind) (n : Nat) (u : State) : SameIteration u (pollLoop k n u).2 := by
  induction n generalizing u with
  | zero => exact ⟨rfl, rfl, rfl, rfl, rfl⟩
  | succ n ih =>
    cases hr : u.pollResp with
    | ack => rw [pollLoop_ack hr]; exact u.countedPoll_sameIteration
    | nack => rw [pollLoop_nack hr]; exact u.countedPoll_sameIteration.trans (ih _)

/-- The one error of a poll loop is the timeout of its kind. -/
theorem pollLoop_error {n : Nat} {e : ErrCode × Phase} (h : (pollLoop k n u).1 = .error e) :
    e = (.timeout, pollPhase k) := by
  induction n generalizing u with
  | zero => cases h; rfl
  | succ n ih =>
    cases hr : u.pollResp with
    | ack => rw [pollLoop_ack hr] at h; cases h
    | nack => rw [pollLoop_nack hr] at h; exact ih h

/-- The one error of a check is the mismatch in the read phase of its kind. -/
theorem checkCaptured_error {e : ErrCode × Phase} (h : checkCaptured k u = .error e) :
    e = (.checksumMismatch, readPhase k) := by
  by_cases hv : crcValid u.msb u.lsb u.chk = true
  · rw [checkCaptured_valid hv] at h
    cases h
  · rw [checkCaptured_invalid hv] at h
    exact (Except.error.inj h).symm

/-- `measure(kind)` (41_sensor_protocol.md R134) stays in the iteration, and its errors are legal pairs (30_encoding.md
R88). -/
theorem measureContract_result {r : Contract Word} (h : measureContract k u = (r, t)) :
    SameIteration u t ∧ ∀ e, r = .error e → legalPair e.1 e.2 = true := by
  cases hr : u.trigResp k with
  | nack =>
    rw [measureContract_nack hr] at h
    cases h
    refine ⟨⟨rfl, rfl, rfl, rfl, rfl⟩, fun e he => ?_⟩
    cases he
    exact legalPair_trigPhase k
  | ack =>
    have hsame := pollLoop_sameIteration k (pollMax u.cfg k) { u.trigger k with attempts := 0 }
    cases hp : pollLoop k (pollMax u.cfg k) { u.trigger k with attempts := 0 } with
    | mk r' v =>
      rw [hp] at hsame
      have hv : SameIteration u v := { hsame with }
      cases r' with
      | error e' =>
        rw [measureContract_error hr hp] at h
        cases h
        refine ⟨hv, fun e he => ?_⟩
        cases he
        rw [pollLoop_error (congrArg Prod.fst hp)]
        exact legalPair_pollPhase k
      | ok _ =>
        rw [measureContract_answered hr hp] at h
        cases h
        exact ⟨hv, fun e he => checkCaptured_error he ▸ legalPair_readPhase k⟩

end

/-! ### The ends of an iteration -/

/-- `t` is the end of the iteration of `s`, before the inter-channel delay: one event was emitted, the `READING` of the
words held or a `FAIL` with a legal pair, for the channel of `s` (R200, R201). -/
structure EndsIteration (s t : State) : Prop where
  free : t.Free
  cfg : t.cfg = s.cfg
  st : t.st = St.idle
  wait : t.wait = s.cfg.channelDelay
  idx : t.idx = nextIdx s.cfg s.idx
  ch : t.ch = s.ch
  report : ∃ e, t.sinkHist = s.sinkHist ++ [e] ∧
    (e = .reading s.ch t.tWord t.rhWord ∨ ∃ c p, legalPair c p = true ∧ e = .fail s.ch c.bits p.bits)

section
variable {s v : State} (hf : s.Free)
include hf

/-- An event of the words held, or of a legal failure, ends the iteration (60_exceptions.md R239). -/
theorem SameIteration.emit_ends (h : SameIteration s v) {e : Event} (he : e = .reading v.ch v.tWord v.rhWord ∨
    ∃ c p, legalPair c p = true ∧ e = .fail v.ch c.bits p.bits) : EndsIteration s (v.emit e).toNextChannel := by
  obtain ⟨hwf, hp⟩ := h.free hf
  obtain ⟨hcfg, -, hidx, hch, hsink⟩ := h
  exact ⟨⟨hwf, hp⟩, hcfg, rfl, congrArg Config.channelDelay hcfg, congrArg₂ nextIdx hcfg hidx, hch, e,
    congrArg (· ++ [e]) hsink, hch ▸ he⟩

theorem SameIteration.failIteration_ends (h : SameIteration s v) {e : ErrCode × Phase}
    (he : legalPair e.1 e.2 = true) : EndsIteration s (v.failIteration e) :=
  SameIteration.emit_ends (v := v.raiseFail e.1 e.2) hf { h with } (.inr ⟨e.1, e.2, he, rfl⟩)

theorem SameIteration.report_ends (h : SameIteration s v) (w : Word) : EndsIteration s (v.report w) :=
  SameIteration.emit_ends (v := { v with rhWord := w }) hf { h with } (.inl rfl)

theorem SameIteration.finishHumidity_ends (h : SameIteration s v) :
    EndsIteration s (finishHumidity (measureContract .humidity v)) := by
  cases hm : measureContract .humidity v with
  | mk r t =>
    obtain ⟨hsame, hlegal⟩ := measureContract_result hm
    have ht := h.trans hsame
    cases r with
    | error e => exact ht.failIteration_ends hf (hlegal e rfl)
    | ok w => exact ht.report_ends hf w

theorem SameIteration.finishTemperature_ends (h : SameIteration s v) :
    EndsIteration s (finishTemperature (measureContract .temperature v)) := by
  cases hm : measureContract .temperature v with
  | mk r t =>
    obtain ⟨hsame, hlegal⟩ := measureContract_result hm
    have ht := h.trans hsame
    cases r with
    | error e => exact ht.failIteration_ends hf (hlegal e rfl)
    | ok w => exact SameIteration.finishHumidity_ends (v := { t with tWord := w }) hf { ht with }

/-- One whole iteration (R205): after its `CYCLE_START` it reports once. -/
theorem acquire_ends : EndsIteration s.startIteration (acquire s) := by
  have hf' : s.startIteration.Free := hf
  have hsame : SameIteration s.startIteration (s.startIteration.muxWrite (muxMask s.startIteration.ch)) :=
    ⟨rfl, rfl, rfl, rfl, rfl⟩
  cases hr : s.startIteration.muxResp (muxMask s.startIteration.ch) with
  | nack =>
    rw [acquire_nack hr]
    exact hsame.failIteration_ends hf' rfl
  | ack =>
    rw [acquire_ack hr]
    exact hsame.finishTemperature_ends hf'

end

/-- Settles O56: the run that ends where the contract does, then the inter-channel delay. -/
theorem everyIterationEndsAndReports : Obligations.EveryIterationEndsAndReports := by
  intro s n hwf hp hs hw hn
  have hat := channelAt_of_getElem? hn
  obtain ⟨m, hpos, hle, hrun⟩ := stateMachineRefinesTheContract s hwf hp hs hw
  obtain ⟨hf, -, hst, hwait, hidx, hch, e, hsink, hreport⟩ := acquire_ends ⟨hwf, hp⟩
  rw [State.startIteration_ch, hat] at hch hreport
  rw [State.startIteration_sinkHist, hat, List.append_assoc] at hsink
  have hdelay := delayIsARunOfTicks (acquire s) hf.1 hf.2 (by rw [hst]; decide)
  rw [hwait] at hdelay
  exact ⟨m + s.cfg.channelDelay, _, e, by omega, hle, run_trans hrun hdelay, hst, rfl, hidx, hch, hsink, hreport⟩

end Sys2Proof.Machine
end

section
/-! A bus that does not acknowledge (spec/60_exceptions.md R236, R241; spec/44_acquisition.md R203, R213): what taking a
failure writes, the iteration whose select is refused, and many of them in a row. -/

namespace Sys2Proof.Machine

/-! ### Taking a failure (R236) -/

/-- Settles O32: the frame is `raiseFail`'s own record update. -/
theorem raiseFailEntersFailed : Obligations.RaiseFailEntersFailed := fun s c p =>
  ⟨s.raiseFail_errCode c p, s.raiseFail_errPhase c p, s.raiseFail_wait c p, s.raiseFail_st c p, rfl⟩

/-! ### One refused select (R241, R213) -/

/-- The state at `IDLE` after an iteration over `ch` whose select was refused, the inter-channel delay over. -/
def State.skipped (s : State) (ch : Channel) : State :=
  ((s.selectRefused ch).failIteration (.noAck, .select)).inSt St.idle 0

section
variable (s : State) (ch : Channel)

theorem State.skipped_idx : (s.skipped ch).idx = (s.idx + 1) % s.cfg.channels.length := rfl

theorem State.skipped_answers : (s.skipped ch).answers = s.answers.tail := rfl

theorem State.skipped_busHist : (s.skipped ch).busHist = s.busHist ++ [selectRecord s.cfg ch s.muxreg .nack] := rfl

theorem State.skipped_sinkHist : (s.skipped ch).sinkHist = s.sinkHist ++ [.cycleStart ch, .fail ch 1 0] :=
  List.append_assoc ..

end

/-- `S_IDLE`, `S_FAILED`, and the inter-channel delay (R192, R201, R208). -/
theorem run_select_refused {s : State} {ch : Channel} (hf : s.Free) (hs : s.st = 0) (hw : s.wait = 0)
    (hch : channelAt s.cfg s.idx = ch) (h : ¬ muxAccepts s) :
    run (2 + s.cfg.channelDelay) s = .next (s.skipped ch) := by
  have hidle : step s = .next ((s.selectRefused ch).raiseFail .noAck .select) :=
    (step_ready hf.1 hf.2 hw hs).trans (exec_sIdle_refused hch h)
  have hfail := run_failIteration (v := s.selectRefused ch) hf (.noAck, .select)
  rw [Nat.add_comm]
  exact run_cons hidle hfail

/-- Settles O58: the one refused iteration, with its records read off. -/
theorem silentMultiplexerSkipsTheChannel : Obligations.SilentMultiplexerSkipsTheChannel := by
  intro s n ch hwf hp hs hw hn hch h
  have hat : channelAt s.cfg s.idx = ch := (channelAt_of_getElem? hn).trans hch.symm
  exact ⟨s.skipped ch, run_select_refused ⟨hwf, hp⟩ hs hw hat h, rfl, rfl, s.skipped_idx ch, s.skipped_busHist ch,
    s.skipped_sinkHist ch⟩

/-! ### A stuck bus (R241, R203) -/

/-- The channel of the `j`-th iteration from here, in the order of the list (R203). -/
def State.channelAfter (s : State) (j : Nat) : Channel := channelAt s.cfg ((s.idx + j) % s.cfg.channels.length)

/-- `t` is at `IDLE` after `k` iterations from `s` whose selects were all refused. What `MUXREG` held at each select but
the first is the environment's (40_mux_writer.md R103), so the records are given without it. -/
structure SkippedChannels (s : State) (k : Nat) (t : State) : Prop where
  free : t.Free
  cfg : t.cfg = s.cfg
  st : t.st = 0
  wait : t.wait = 0
  idx : t.idx = (s.idx + k) % s.cfg.channels.length
  answers : t.answers = s.answers.drop k
  sinkHist : t.sinkHist = s.sinkHist ++ (List.range k).flatMap fun j =>
    [.cycleStart (s.channelAfter j), .fail (s.channelAfter j) 1 0]
  busHist : ∃ rs, t.busHist = s.busHist ++ rs ∧ rs.map (fun r => (r.addr, r.sent, r.resp)) =
    (List.range k).map fun j => (s.cfg.muxAddr, [muxMask (s.channelAfter j)], .nack)

section
variable {s t : State} {k : Nat}

theorem SkippedChannels.zero (hf : s.Free) (hs : s.st = 0) (hw : s.wait = 0) (hidx : s.idx < s.cfg.channels.length) :
    SkippedChannels s 0 s where
  free := hf
  cfg := rfl
  st := hs
  wait := hw
  idx := (Nat.mod_eq_of_lt hidx).symm
  answers := rfl
  sinkHist := (List.append_nil _).symm
  busHist := ⟨[], (List.append_nil _).symm, rfl⟩

theorem SkippedChannels.succ (h : SkippedChannels s k t) :
    SkippedChannels s (k + 1) (t.skipped (s.channelAfter k)) := by
  obtain ⟨hf, hcfg, -, -, hidx, hans, hsink, rs, hbus, hrs⟩ := h
  exact
    { free := hf
      cfg := hcfg
      st := rfl
      wait := rfl
      idx := by rw [State.skipped_idx, hcfg, hidx, Nat.mod_add_mod, Nat.add_assoc]
      answers := by rw [State.skipped_answers, hans, List.tail_drop]
      sinkHist := by simp [State.skipped_sinkHist, hsink, List.range_succ]
      busHist := by
        refine ⟨rs ++ [selectRecord t.cfg (s.channelAfter k) t.muxreg .nack], ?_, ?_⟩
        · rw [State.skipped_busHist, hbus, List.append_assoc]
        · simp [hrs, hcfg, selectRecord, List.range_succ] }

/-- A refusal at the head of the answers left is a refused select. -/
theorem SkippedChannels.not_muxAccepts (h : SkippedChannels s k t) (hk : k < s.answers.length)
    (hno : s.answers[k].addrAck = false) : ¬ muxAccepts t := by
  have hans : t.answer = s.answers[k] := State.answer_of_cons (h.answers.trans (List.drop_eq_getElem_cons hk))
  rw [muxAccepts, hans, hno]
  exact fun hacc => Bool.false_ne_true hacc.1

/-- One more refused iteration. -/
theorem SkippedChannels.run_next (h : SkippedChannels s k t) (hacc : ¬ muxAccepts t) :
    run (2 + s.cfg.channelDelay) t = .next (t.skipped (s.channelAfter k)) := by
  have hch : channelAt t.cfg t.idx = s.channelAfter k := by rw [h.cfg, h.idx, State.channelAfter]
  have hrun := run_select_refused h.free h.st h.wait hch hacc
  rwa [h.cfg] at hrun

/-- `k` refusals are `k` skipped channels. -/
theorem run_selects_refused (hf : s.Free) (hs : s.st = 0) (hw : s.wait = 0) (hidx : s.idx < s.cfg.channels.length)
    (hk : k ≤ s.answers.length) (hno : ∀ a ∈ s.answers.take k, a.addrAck = false) :
    ∃ t, run (k * (2 + s.cfg.channelDelay)) s = .next t ∧ SkippedChannels s k t := by
  induction k with
  | zero => exact ⟨s, by rw [Nat.zero_mul]; rfl, .zero hf hs hw hidx⟩
  | succ k ih =>
    have htake : s.answers.take (k + 1) = s.answers.take k ++ [s.answers[k]] := List.take_succ_eq_append_getElem hk
    rw [htake, List.forall_mem_append, List.forall_mem_singleton] at hno
    obtain ⟨t, hrun, h⟩ := ih (Nat.le_of_succ_le hk) hno.1
    have hnext := h.run_next (h.not_muxAccepts hk hno.2)
    exact ⟨_, Nat.succ_mul k _ ▸ run_trans hrun hnext, h.succ⟩

end

/-- Settles O60: `k` skipped channels, with the new records read off. -/
theorem stuckBusKeepsCycling : Obligations.StuckBusKeepsCycling := by
  intro s k hwf hp hs hw hidx hk hno
  obtain ⟨t, hrun, h⟩ := run_selects_refused ⟨hwf, hp⟩ hs hw hidx hk hno
  obtain ⟨rs, hbus, hrs⟩ := h.busHist
  refine ⟨t, hrun, h.st, h.wait, h.idx, h.sinkHist, ?_⟩
  rw [hbus, List.drop_left]
  exact hrs

end Sys2Proof.Machine
end

section
/-! Reset and the first step after it (spec/70_reset_and_hazards.md R260 to R263; spec/10_state.md R38): what reset leaves
in the registers and histories, and the iteration that a block at `IDLE` begins. -/

namespace Sys2Proof.Machine

/-! ### Reset (R260, R263) -/

section
variable (c : Config) (mux : Byte)

@[simp] theorem State.resetWith_cfg : (State.resetWith c mux).cfg = c := rfl
@[simp] theorem State.resetWith_st : (State.resetWith c mux).st = 0 := rfl
@[simp] theorem State.resetWith_idx : (State.resetWith c mux).idx = 0 := rfl
@[simp] theorem State.resetWith_wait : (State.resetWith c mux).wait = 0 := rfl
@[simp] theorem State.resetWith_muxreg : (State.resetWith c mux).muxreg = mux := rfl
@[simp] theorem State.resetWith_busHist : (State.resetWith c mux).busHist = [] := rfl
@[simp] theorem State.resetWith_sinkHist : (State.resetWith c mux).sinkHist = [] := rfl

variable {c} in
/-- Nothing is placed after reset (log 6): the block runs on its own. -/
theorem State.resetWith_free (hwf : c.wf = true) : (State.resetWith c mux).Free := ⟨hwf, rfl⟩

end

/-- A warm reset is the reset of the block's own configuration and `MUXREG`, under the environment it had. -/
theorem State.warmReset_eq (s : State) :
    s.warmReset = { State.resetWith s.cfg s.muxreg with answers := s.answers, nAnswers := s.nAnswers } := rfl

/-- Settles O41: reset and warm reset, register by register. -/
theorem resetLeavesIdle : Obligations.ResetLeavesIdle := by
  refine ⟨?_, fun s => ?_⟩
  · rintro c mux _ rfl
    simp
  · simp [State.warmReset_eq]

/-! ### The step at `IDLE` (R261, R192) -/

section
variable {s : State} (hf : s.Free) (hs : s.st = St.idle) (hw : s.wait = 0)
include hf hs hw

theorem step_idle : step s = exec .sIdle s := step_ready hf.1 hf.2 hw hs

/-- Whatever the environment answers, the step announces the channel of the index and writes that channel's mask. -/
theorem step_idle_appends {ch : Channel} (hch : channelAt s.cfg s.idx = ch) :
    ∃ t r, step s = .next t ∧ t.sinkHist = s.sinkHist ++ [.cycleStart ch] ∧
      t.busHist = s.busHist ++ [⟨.write, s.cfg.muxAddr, [muxMask ch], r, [], s.muxreg⟩] := by
  subst hch
  exact ⟨_, _, step_idle hf hs hw, s.startIteration.selectStep_sinkHist, s.startIteration.selectStep_busHist⟩

end

/-- Settles O42: the step at `IDLE` for index 0 and empty histories. -/
theorem firstStepAfterResetSelects : Obligations.FirstStepAfterResetSelects := by
  intro c mux n hwf hn
  have hf : (State.resetWith c mux).Free := State.resetWith_free mux hwf
  have hch : channelAt c 0 = BitVec.ofNat 3 n := channelAt_of_getElem? hn
  exact ⟨step_idle hf rfl rfl, step_idle_appends hf rfl rfl hch⟩

end Sys2Proof.Machine
end
